-- ==== Sys2Proof/Word.lean ====
section
/-! DEFINITION. The widths of the core's data: the 32-bit register word, the byte of SRC and FOUT, the 16-bit
RGB565 word and keystate report (10_state.md R21; 20_memory.md R60; 30_encoding.md R90, R91). -/

namespace Sys2Proof

/-- One register of the window, or one command word (10_state.md R21, 30_encoding.md R93). -/
abbrev Word := BitVec 32

/-- One byte of SRC or FOUT (20_memory.md R60). -/
abbrev Byte := BitVec 8

/-- One RGB565 word, or one keystate report (30_encoding.md R90, R91). -/
abbrev Half := BitVec 16

end Sys2Proof
end

