-- ==== Sys2Proof/Syntax.lean ====
section
/-! DEFINITION. The syntax of what the core is asked to do: the 21 rows of the opcode table (`Instr`), the command words
it rejects (`IllegalCmd`), the registers (`Reg`), the host accesses of 40_command_interface.md R120 (`HostAccess`), the
agents (`Agent`), the host's operations (`HostOp`) and the host-script lines of 30_encoding.md R105 to R107 (`ScriptLine`). -/

namespace Sys2Proof

/-- The rows of spec/opcode_table.json, one constructor each (30_encoding.md R95 to R100). Operand fields are unsigned and
exactly as wide as their encoding, so none can be out of range (R103). -/
inductive Instr
  | nop
  | cvt888 (r g b : Byte)
  | cvtf
  | pack565 (r5 : BitVec 5) (g6 : BitVec 6) (b5 : BitVec 5)
  | frameU8
  | frameF
  | frameRaw
  | frameT3
  | frameT4
  | frameT5
  | frameT6
  | frameT7
  | frameT8
  | frameT9
  | frameT10
  | frameT11
  | frameT12
  | frameT13
  | frameT14
  | frameT15
  /-- A write of the keystate report `rep` to KEY_IN (43_key_decoder.md R202). Bits 31:16 of the written word are
  discarded (30_encoding.md R100), so they are no operand. -/
  | keydec (rep : Half)
  deriving DecidableEq, Repr

/-- Why a command word is illegal (30_encoding.md R102). -/
inductive IllegalCmd
  /-- R102 (a): the opcode in bits 31:24 is unassigned. -/
  | unassignedOpcode (opc : Byte)
  /-- R102 (b): the opcode is assigned and a reserved bit is not zero. -/
  | reservedBits (opc : Byte)
  deriving DecidableEq, Repr

/-- What the decoder answers for a word: an instruction, or ILLEGAL with its reason (30_encoding.md R101). -/
inductive Decoded
  | instr (i : Instr)
  | illegal (why : IllegalCmd)
  deriving DecidableEq, Repr

/-- The sixteen registers of the window (10_state.md R21). -/
inductive Reg
  | cmd | status | result | srcRank | srcDim0 | srcDim1 | srcDim2 | srcLen
  | finRLo | finRHi | finGLo | finGHi | finBLo | finBHi | keyIn | keyOut
  deriving DecidableEq, Repr

/-- The host's six accesses (40_command_interface.md R120). `i` is the 4-bit word index of a register (20_memory.md R61),
`a` a 32-bit address of SRC or FOUT. -/
inductive HostAccess
  | regRd (i : BitVec 4)
  | regWr (i : BitVec 4) (v : Word)
  | srcRd (a : BitVec 32)
  | srcWr (a : BitVec 32) (b : Byte)
  | foutRd (a : BitVec 32)
  | reset
  deriving DecidableEq, Repr

/-- What the host does next: one access, or the polling loop `wait`, which reads STATUS until BUSY is 0
(30_encoding.md R107). -/
inductive HostOp
  | access (a : HostAccess)
  | wait
  deriving DecidableEq, Repr

/-- The two kinds of agent that take steps (60_exceptions.md R235): the host side and the frame packer's sequencer. -/
inductive Agent
  | host
  | sequencer
  deriving DecidableEq, Repr, Inhabited

/-- The three channels of a pixel, in the order R, G, B (00_scope.md R5). -/
inductive Channel
  | red | green | blue
  deriving DecidableEq, Repr

/-- A floating-point number as a script line writes it: a decimal, held exactly as a sign and a fraction `n / d`, an infinity,
or a NaN (30_encoding.md R105, R107). -/
inductive FloatLit
  | num (neg : Bool) (n d : Nat)
  | inf (neg : Bool)
  | nan
  deriving DecidableEq, Repr

/-- One line of a host script (30_encoding.md R105 to R107). Operands are plain numbers: a line whose operand is out of
its stated range is refused (R106), see `ScriptLine.operandsOk`. -/
inductive ScriptLine
  | wr (r : Reg) (v : Nat)
  | rd (r : Reg)
  | swr (a b : Nat)
  | srd (a : Nat)
  | frd (a : Nat)
  | reset
  | nop
  | cvt888 (r g b : Nat)
  | cvtf
  | pack565 (r5 g6 b5 : Nat)
  | frameU8
  | frameF
  | frameRaw
  | frameT (t : Nat)
  | keydec (rep : Nat)
  | wait
  | shape
  | rawlen
  | fin (x : Channel) (v : FloatLit)
  | sfill (a n b : Nat)
  deriving DecidableEq, Repr

end Sys2Proof
end

