-- ==== Sys2Proof/Decode.lean ====
section
/-! DEFINITION. Decoding and encoding (30_encoding.md R93 to R102). `decodeCmd` is total on every command word and answers
ILLEGAL with a reason by name. `decodeWrite` adds which register the word is written to: CMD takes a command, KEY_IN takes a
keystate report (R100). The encoder is written from the same tables. -/

namespace Sys2Proof

/-- The opcode field OPC, bits 31:24 (30_encoding.md R93). -/
def opcode (w : Word) : Byte := w.extractLsb' 24 8

/-- The FRAME commands by their element-type field (30_encoding.md R99). -/
def frameInstr (t : BitVec 4) : Instr :=
  match t.toNat with
  | 0 => .frameU8
  | 1 => .frameF
  | 2 => .frameRaw
  | 3 => .frameT3
  | 4 => .frameT4
  | 5 => .frameT5
  | 6 => .frameT6
  | 7 => .frameT7
  | 8 => .frameT8
  | 9 => .frameT9
  | 10 => .frameT10
  | 11 => .frameT11
  | 12 => .frameT12
  | 13 => .frameT13
  | 14 => .frameT14
  | _ => .frameT15

/-- An instruction where the reserved bits are zero, ILLEGAL where they are not (30_encoding.md R102 (b)). -/
def unlessReserved (opc : Byte) (reservedZero : Bool) (i : Instr) : Decoded :=
  if reservedZero then .instr i else .illegal (.reservedBits opc)

/-- The command decoder, case by case as 30_encoding.md R101 writes it. -/
def decodeCmd (w : Word) : Decoded :=
  if opcode w = 0x00#8 then
    unlessReserved 0x00#8 (w.extractLsb' 0 24 == 0#24) .nop
  else if opcode w = 0x01#8 then
    .instr (.cvt888 (w.extractLsb' 16 8) (w.extractLsb' 8 8) (w.extractLsb' 0 8))
  else if opcode w = 0x02#8 then
    unlessReserved 0x02#8 (w.extractLsb' 0 24 == 0#24) .cvtf
  else if opcode w = 0x03#8 then
    unlessReserved 0x03#8 (w &&& 0x00E0C0E0#32 == 0#32)
      (.pack565 (w.extractLsb' 16 5) (w.extractLsb' 8 6) (w.extractLsb' 0 5))
  else if opcode w = 0x10#8 then
    unlessReserved 0x10#8 (w.extractLsb' 4 20 == 0#20) (frameInstr (w.extractLsb' 0 4))
  else
    .illegal (.unassignedOpcode (opcode w))

/-- What a register write of `v` to index `i` asks for: a command at index 0 (CMD), a keystate report at index 14
(KEY_IN) (30_encoding.md R100, R101), and no instruction at any other index. -/
def decodeWrite (i : BitVec 4) (v : Word) : Option Decoded :=
  if i = 0#4 then some (decodeCmd v)
  else if i = 14#4 then some (.instr (.keydec (v.extractLsb' 0 16)))
  else none

/-- A FRAME word: OPC 0x10, bits 23:4 zero, ETYPE in bits 3:0 (30_encoding.md R99, R106). -/
def frameWord (t : BitVec 4) : Word := 0x10000000#32 ||| t.setWidth 32

/-- The word of each instruction, from the encoding tables 30_encoding.md R95 to R100 and the expansions of R106. -/
def encodeWord : Instr → Word
  | .nop => 0x00000000#32
  | .cvt888 r g b =>
    0x01000000#32 ||| (r.setWidth 32 <<< 16) ||| (g.setWidth 32 <<< 8) ||| b.setWidth 32
  | .cvtf => 0x02000000#32
  | .pack565 r5 g6 b5 =>
    0x03000000#32 ||| (r5.setWidth 32 <<< 16) ||| (g6.setWidth 32 <<< 8) ||| b5.setWidth 32
  | .frameU8 => frameWord 0
  | .frameF => frameWord 1
  | .frameRaw => frameWord 2
  | .frameT3 => frameWord 3
  | .frameT4 => frameWord 4
  | .frameT5 => frameWord 5
  | .frameT6 => frameWord 6
  | .frameT7 => frameWord 7
  | .frameT8 => frameWord 8
  | .frameT9 => frameWord 9
  | .frameT10 => frameWord 10
  | .frameT11 => frameWord 11
  | .frameT12 => frameWord 12
  | .frameT13 => frameWord 13
  | .frameT14 => frameWord 14
  | .frameT15 => frameWord 15
  | .keydec rep => rep.setWidth 32

/-- The index of the register an instruction's word is written to: KEY_IN for KEYDEC (30_encoding.md R100), CMD for every
command. -/
def encodeIndex : Instr → BitVec 4
  | .nop => 0#4
  | .cvt888 _ _ _ => 0#4
  | .cvtf => 0#4
  | .pack565 _ _ _ => 0#4
  | .frameU8 => 0#4
  | .frameF => 0#4
  | .frameRaw => 0#4
  | .frameT3 => 0#4
  | .frameT4 => 0#4
  | .frameT5 => 0#4
  | .frameT6 => 0#4
  | .frameT7 => 0#4
  | .frameT8 => 0#4
  | .frameT9 => 0#4
  | .frameT10 => 0#4
  | .frameT11 => 0#4
  | .frameT12 => 0#4
  | .frameT13 => 0#4
  | .frameT14 => 0#4
  | .frameT15 => 0#4
  | .keydec _ => 14#4

/-- The register write that issues an instruction: its index and its word. -/
def encode (i : Instr) : BitVec 4 × Word := (encodeIndex i, encodeWord i)

/-- The word of the lowest `nbits` bits of `w`, the bits above them zero. -/
def tableWord (nbits w : Nat) : Word := BitVec.ofNat 32 (w % 2 ^ nbits)

/-- The instruction the decoder reads from a command word. KEYDEC's row of the table has no fixed bit and its word goes to
another register, so a word alone never names it (30_encoding.md R100; log 12). -/
def decodeTableWord (nbits w : Nat) : Option Instr :=
  match decodeCmd (tableWord nbits w) with
  | .instr i => some i
  | .illegal _ => none

end Sys2Proof
end

