-- ==== Sys2Proof/Config.lean ====
section
/-! DEFINITION. The parameters of the core (00_scope.md R7 to R11) and the free values the spec leaves open. Every open
value is an opaque constant with no body: a claim that holds of the model holds for every value of it (log 1, 2, 4, 5, 8, 22). -/

namespace Sys2Proof

/-- The IEEE 754 binary interchange formats FLOAT_FMT ranges over (00_scope.md R7). -/
inductive FloatFmt
  | binary32
  | binary64
  deriving DecidableEq, Repr, Inhabited

/-- The width of a format in bytes, FW (00_scope.md R7). -/
def FloatFmt.bytes : FloatFmt → Nat
  | .binary32 => 4
  | .binary64 => 8

/-- A byte order: LE stores the low byte first, BE the high byte (00_scope.md R8, R11). -/
inductive ByteOrder
  | le
  | be
  deriving DecidableEq, Repr, Inhabited

/-- SCAN_ORDER (00_scope.md R9). -/
inductive ScanOrder
  | aOuter
  | bOuter
  deriving DecidableEq, Repr, Inhabited

/-- The parameters that fix how pixels are read and written (00_scope.md R7, R8, R9, R11). -/
structure Params where
  floatFmt : FloatFmt
  payloadEndian : ByteOrder
  scanOrder : ScanOrder
  srcFloatOrder : ByteOrder
  deriving DecidableEq, Repr

/-- FLOAT_FMT, open, with no default (00_scope.md R7). DESIGN CHOICE log 1. -/
opaque Config.floatFmt : FloatFmt

/-- PAYLOAD_ENDIAN, a parameter; the spec's default LE is not assumed (00_scope.md R8). DESIGN CHOICE log 1. -/
opaque Config.payloadEndian : ByteOrder

/-- SCAN_ORDER, a parameter; the spec's default A_OUTER is not assumed (00_scope.md R9). DESIGN CHOICE log 1. -/
opaque Config.scanOrder : ScanOrder

/-- SRC_FLOAT_BYTE_ORDER, a parameter; the spec's default LE is not assumed (00_scope.md R11). DESIGN CHOICE log 1. -/
opaque Config.srcFloatOrder : ByteOrder

/-- The parameters of this core. -/
def Config.params : Params :=
  { floatFmt := Config.floatFmt
    payloadEndian := Config.payloadEndian
    scanOrder := Config.scanOrder
    srcFloatOrder := Config.srcFloatOrder }

/-- How many bytes SRC has beyond the least it may have (00_scope.md R10), before the upper bound. DESIGN CHOICE log 2. -/
opaque Config.srcSpare : BitVec 32

/-- SRC_BYTES: at least 230,400 * FW and at most 2^32 (00_scope.md R10). Every admissible size is the size for some
value of `srcSpare`. -/
def Config.srcBytes : Nat :=
  min (230400 * Config.floatFmt.bytes + Config.srcSpare.toNat) 4294967296

/-- The free value of a NaN red channel: any of 0..31 (41_quantizer.md R144), by the number of the drawing command and the
payload pixel (0 for CVTF) (42_frame_packer.md R179). DESIGN CHOICE log 4. -/
opaque Config.nanRed : Nat → Nat → BitVec 5

/-- The free value of a NaN green channel: any of 0..63 (41_quantizer.md R144). DESIGN CHOICE log 4. -/
opaque Config.nanGreen : Nat → Nat → BitVec 6

/-- The free value of a NaN blue channel: any of 0..31 (41_quantizer.md R144). DESIGN CHOICE log 4. -/
opaque Config.nanBlue : Nat → Nat → BitVec 5

/-- The free content of an unwritten SRC byte, by the number of the reset and the address
(70_reset_and_hazards.md R252). DESIGN CHOICE log 5. -/
opaque Config.freeSrc : Nat → Nat → Byte

/-- The free content of an unwritten FOUT byte, by the number of the reset and the address
(70_reset_and_hazards.md R252). DESIGN CHOICE log 5. -/
opaque Config.freeFout : Nat → Nat → Byte

/-- The free choice among the NaN encodings, where a script line `fin.X` writes a NaN: R107 gives no one encoding of it
(30_encoding.md R107). DESIGN CHOICE log 22. -/
opaque Config.nanCode : BitVec 64

/-- The free number of turns the host has between one turn of the sequencer and the next: any number, so how many host steps
interleave with a job is unbounded (70_reset_and_hazards.md R259). DESIGN CHOICE log 8. -/
opaque Config.freeGap : Nat → Nat

/-- Where a schedule with these gaps stands at turn `n`: which gap it is in, and how many turns of the host are left in it. -/
def gapAt (gaps : Nat → Nat) : Nat → Nat × Nat
  | 0 => (0, gaps 0)
  | n + 1 =>
    match gapAt gaps n with
    | (k, 0) => (k + 1, gaps (k + 1))
    | (k, left + 1) => (k, left)

/-- The agent whose turn it is at turn `n` of a schedule: the sequencer at the end of each gap. As every gap ends, the schedule is
weakly fair to the sequencer, the spec's only liveness assumption (70_reset_and_hazards.md R259), and every weakly fair schedule
has such gaps. -/
def turnOf (gaps : Nat → Nat) (n : Nat) : Agent :=
  match (gapAt gaps n).2 with
  | 0 => .sequencer
  | _ + 1 => .host

/-- The free choice of the agent that moves next when both are enabled (00_scope.md R14), weakly fair to the sequencer
(70_reset_and_hazards.md R259). DESIGN CHOICE log 8. -/
def Config.freeTurn (n : Nat) : Agent := turnOf Config.freeGap n

end Sys2Proof
end

