-- ==== Sys2Proof/Machine/State.lean ====
section
/-! DEFINITION. The state of the core as plain data: the registers and internal state of 10_state.md, the two memories of
20_memory.md, and the model's own fields (the host's pending accesses and what its reads returned, the agent to move next, the
counters that pick free values). INVENTORY.md lists every field with its rule and reset value. -/

namespace Sys2Proof.Machine

/-- A byte memory: the bytes written since the last reset, by address, in one canonical form (addresses strictly rising). An
unlisted address holds no written byte; what it reads as is `State.srcByte` and `State.foutByte`'s free value (log 5, 6). -/
abbrev Memory := List Host.Cell

/-- JOB_ETYPE: the element type of the running or last accepted valid frame job (10_state.md R42). The spec's 2-bit value 3
is never stored, so three names hold all of it (log 16). -/
inductive JobEtype
  | u8
  | float
  | raw
  deriving DecidableEq, Repr

/-- What one read of the host returned (70_reset_and_hazards.md R262): the access and its value (log 9). -/
inductive ReadValue
  | reg (i : BitVec 4) (v : Word)
  | src (a : BitVec 32) (b : Byte)
  | fout (a : BitVec 32) (b : Byte)
  deriving DecidableEq, Repr

/-- The reasons the machine stops with a fault: none. "No behaviour of the core is `stuck`. Every state has a successor for
every host access" (93_implementation_defined.md section 1); errors are recorded in STATUS.ERR (log 14). -/
inductive Fault
  deriving DecidableEq, Repr

/-- The reasons an instruction has no meaning in the model. -/
inductive Refusal
  /-- Raised by `exec` alone, for a row of the opcode table that has no meaning yet. Every row has its meaning, so nothing
  raises it; where it were raised it would be safe, since the model stops. -/
  | notModelled (mnemonic : String)
  deriving DecidableEq, Repr

/-- The state of the core and of its host interface. -/
structure State where
  /-- STATUS.BUSY, bit 0: a frame job is running (10_state.md R24). -/
  busy : Bool
  /-- STATUS.DONE, bit 1: the last accepted command has finished (10_state.md R25). -/
  done : Bool
  /-- STATUS.FVALID, bit 2: FOUT holds a complete frame (10_state.md R26). -/
  fvalid : Bool
  /-- STATUS.OVR, bit 3: a write was ignored because BUSY was 1 (10_state.md R27). -/
  ovr : Bool
  /-- STATUS.ERR, bits 7:4: the error code of the last accepted command (10_state.md R28). -/
  err : BitVec 4
  /-- RESULT (10_state.md R31). -/
  result : Word
  /-- SRC_RANK (10_state.md R32). -/
  srcRank : Word
  /-- SRC_DIM0 (10_state.md R33). -/
  srcDim0 : Word
  /-- SRC_DIM1 (10_state.md R33). -/
  srcDim1 : Word
  /-- SRC_DIM2 (10_state.md R33). -/
  srcDim2 : Word
  /-- SRC_LEN (10_state.md R34). -/
  srcLen : Word
  /-- FIN_R_LO (10_state.md R35). -/
  finRLo : Word
  /-- FIN_R_HI (10_state.md R35). -/
  finRHi : Word
  /-- FIN_G_LO (10_state.md R35). -/
  finGLo : Word
  /-- FIN_G_HI (10_state.md R35). -/
  finGHi : Word
  /-- FIN_B_LO (10_state.md R35). -/
  finBLo : Word
  /-- FIN_B_HI (10_state.md R35). -/
  finBHi : Word
  /-- KEY_IN (10_state.md R37). -/
  keyIn : Word
  /-- POS, the sequencer's position (10_state.md R41). -/
  pos : BitVec 18
  /-- JOB_ETYPE (10_state.md R42). -/
  jobEtype : JobEtype
  /-- The SRC memory: the bytes the host has written since the last reset (20_memory.md R62). -/
  src : Memory
  /-- The FOUT memory: the bytes the sequencer has written since the last reset (20_memory.md R67). -/
  fout : Memory
  /-- The model's own: how many RESET accesses have been performed; picks the free contents of SRC and FOUT (log 5). -/
  resets : Nat
  /-- The model's own: how many CVTF commands and valid FRAME commands have been accepted; picks the free NaN values (log 4). -/
  draws : Nat
  /-- The model's own: the agent that moves when both are enabled (log 8). -/
  turn : Agent
  /-- The model's own: how many turns have been drawn (log 8). -/
  turns : Nat
  /-- The model's own: the host's operations still to be performed, oldest first, already interleaved (log 7). -/
  pending : List HostOp
  /-- The model's own: what the host's reads have returned, oldest first (log 9). -/
  reads : List ReadValue
  deriving DecidableEq, Repr

/-- The core right after reset: every register 0 (70_reset_and_hazards.md R250), no byte of SRC or FOUT written (R252). The
model's own fields start at values of the model's choice (log 4, 5, 7, 8, 9); power-on is a reset (R253). -/
def State.reset : State :=
  { busy := false
    done := false
    fvalid := false
    ovr := false
    err := 0#4
    result := 0#32
    srcRank := 0#32
    srcDim0 := 0#32
    srcDim1 := 0#32
    srcDim2 := 0#32
    srcLen := 0#32
    finRLo := 0#32
    finRHi := 0#32
    finGLo := 0#32
    finGHi := 0#32
    finBLo := 0#32
    finBHi := 0#32
    keyIn := 0#32
    pos := 0#18
    jobEtype := .u8
    src := []
    fout := []
    resets := 0
    draws := 0
    turn := .host
    turns := 0
    pending := []
    reads := [] }

end Sys2Proof.Machine
end

