-- ==== Sys2Proof/Machine/Flags.lean ====
section
/-! DEFINITION. The STATUS flags: the STATUS word, and every way the rules change a flag (10_state.md R24 to R30;
40_command_interface.md R121, R123; 60_exceptions.md R226). -/

namespace Sys2Proof.Machine

/-- A flag as a word with the flag at bit `n` and every other bit 0. -/
def flagAt (n : Nat) (b : Bool) : Word := if b then 1#32 <<< n else 0#32

/-- The STATUS word as a read returns it: `{24'b0, ERR, OVR, FVALID, DONE, BUSY}` (40_command_interface.md R125). -/
def statusWord (s : State) : Word :=
  (s.err.setWidth 32 <<< 4) ||| flagAt 3 s.ovr ||| flagAt 2 s.fvalid ||| flagAt 1 s.done ||| flagAt 0 s.busy

/-- What the acceptance of every command does before it decodes: OVR, ERR and DONE are cleared
(40_command_interface.md R121). -/
def State.beginCommand (s : State) : State :=
  { s with ovr := false, err := 0#4, done := false }

/-- A single-step command finishes: DONE <- 1 (10_state.md R25). -/
def State.finish (s : State) : State :=
  { s with done := true }

/-- A write ignored because BUSY = 1 sets OVR and nothing else (40_command_interface.md R123, 20_memory.md R66). -/
def State.setOvr (s : State) : State :=
  { s with ovr := true }

/-- The errors of the core (60_exceptions.md R220). -/
inductive ErrorKind
  | shape
  | length
  | unsupportedFormat
  | illegalCmd
  deriving DecidableEq, Repr

/-- The code STATUS.ERR holds for an error (60_exceptions.md R220). -/
def errorCode : ErrorKind → BitVec 4
  | .shape => 1#4
  | .length => 2#4
  | .unsupportedFormat => 3#4
  | .illegalCmd => 4#4

/-- The flags of a valid FRAME command's acceptance: FVALID <- 0, BUSY <- 1, DONE stays 0 (42_frame_packer.md R186). -/
def State.markRunning (s : State) : State :=
  { s with fvalid := false, busy := true }

/-- The flags of a job's last step: BUSY <- 0, DONE <- 1, FVALID <- 1 (42_frame_packer.md R181). -/
def State.markComplete (s : State) : State :=
  { s with busy := false, done := true, fvalid := true }

end Sys2Proof.Machine
end

