-- ==== Sys2Proof/Machine/Ops.lean ====
section
/-! DEFINITION. The named operations over memory and registers: the canonical byte memory, one byte of SRC or FOUT
(20_memory.md R66 to R69), the register window (10_state.md R21, R22; 40_command_interface.md R124, R125), the acceptance of a
command (R121, R123), raising an error (60_exceptions.md R226) and reset (70_reset_and_hazards.md R250). -/

namespace Sys2Proof.Machine

/-! The byte memory. -/

/-- The byte an address lists, if any. -/
def Memory.read : Memory → Nat → Option Byte
  | [], _ => none
  | (k, b) :: rest, a => if k = a then some b else Memory.read rest a

/-- Store a byte at an address, keeping the addresses rising. -/
def Memory.write : Memory → Nat → Byte → Memory
  | [], a, b => [(a, b)]
  | (k, c) :: rest, a, b =>
    if a < k then (a, b) :: (k, c) :: rest
    else if a = k then (a, b) :: rest
    else (k, c) :: Memory.write rest a b

/-- The canonical form of a memory of `size` bytes: addresses strictly rising, each below `size`. An unlisted address reads
as no written byte, so no entry can repeat what an unlisted address reads as (log 6). -/
abbrev Memory.wf (size : Nat) (m : Memory) : Prop :=
  m.Pairwise (fun x y => x.1 < y.1) ∧ ∀ c ∈ m, c.1 < size

/-- The size of FOUT, FRAME_BYTES (00_scope.md R6, 20_memory.md R67). -/
def frameBytes : Nat := 153856

/-- The size of the pixel payload, PAYLOAD_BYTES (00_scope.md R6). -/
def payloadBytes : Nat := 153600

/-- SRC[a] as the core holds it: the byte last written, or the free content left by the last reset
(70_reset_and_hazards.md R252). -/
def State.srcByte (s : State) (a : Nat) : Byte :=
  match Memory.read s.src a with
  | some b => b
  | none => Config.freeSrc s.resets a

/-- FOUT[a] as the core holds it: the byte last written, or the free content left by the last reset
(70_reset_and_hazards.md R252). -/
def State.foutByte (s : State) (a : Nat) : Byte :=
  match Memory.read s.fout a with
  | some b => b
  | none => Config.freeFout s.resets a

/-- `FOUT[a] <- b`, the sequencer's write (42_frame_packer.md R181). -/
def State.putFout (s : State) (a : Nat) (b : Byte) : State :=
  { s with fout := Memory.write s.fout a b }

/-- `SRC[a] <- b`, a host write that is performed (20_memory.md R66). -/
def State.putSrc (s : State) (a : Nat) (b : Byte) : State :=
  { s with src := Memory.write s.src a b }

/-! The register window. -/

/-- The register at a word index (10_state.md R21). -/
def regOfIndex (i : BitVec 4) : Reg :=
  match i.toNat with
  | 0 => .cmd
  | 1 => .status
  | 2 => .result
  | 3 => .srcRank
  | 4 => .srcDim0
  | 5 => .srcDim1
  | 6 => .srcDim2
  | 7 => .srcLen
  | 8 => .finRLo
  | 9 => .finRHi
  | 10 => .finGLo
  | 11 => .finGHi
  | 12 => .finBLo
  | 13 => .finBHi
  | 14 => .keyIn
  | _ => .keyOut

/-- The word index of a register (10_state.md R21). -/
def regIndex : Reg → BitVec 4
  | .cmd => 0#4
  | .status => 1#4
  | .result => 2#4
  | .srcRank => 3#4
  | .srcDim0 => 4#4
  | .srcDim1 => 5#4
  | .srcDim2 => 6#4
  | .srcLen => 7#4
  | .finRLo => 8#4
  | .finRHi => 9#4
  | .finGLo => 10#4
  | .finGHi => 11#4
  | .finBLo => 12#4
  | .finBHi => 13#4
  | .keyIn => 14#4
  | .keyOut => 15#4

/-- KEY_IN.REPORT, bits 15:0 (10_state.md R37). -/
def State.report (s : State) : Half := s.keyIn.extractLsb' 0 16

/-- The word KEY_OUT shows for a report: `zext32(rep & 0xFF00)` (43_key_decoder.md R201). -/
def keyOutWord (rep : Half) : Word := (rep &&& 0xFF00#16).setWidth 32

/-- What `REG_RD` returns for each register (40_command_interface.md R125). -/
def State.readReg (s : State) : Reg → Word
  | .cmd => 0#32
  | .status => statusWord s
  | .result => s.result
  | .srcRank => s.srcRank
  | .srcDim0 => s.srcDim0
  | .srcDim1 => s.srcDim1
  | .srcDim2 => s.srcDim2
  | .srcLen => s.srcLen
  | .finRLo => s.finRLo
  | .finRHi => s.finRHi
  | .finGLo => s.finGLo
  | .finGHi => s.finGHi
  | .finBLo => s.finBLo
  | .finBHi => s.finBHi
  | .keyIn => s.report.setWidth 32
  | .keyOut => keyOutWord s.report

/-- Store all 32 bits in a plain RW register, indices 3..13 (40_command_interface.md R124). The other registers have no plain
store: CMD is a command, KEY_IN stores its low half (`State.storeKeyIn`), STATUS, RESULT and KEY_OUT ignore every write
(10_state.md R22). -/
def State.storeReg (s : State) (r : Reg) (v : Word) : State :=
  match r with
  | .cmd => s
  | .status => s
  | .result => s
  | .srcRank => { s with srcRank := v }
  | .srcDim0 => { s with srcDim0 := v }
  | .srcDim1 => { s with srcDim1 := v }
  | .srcDim2 => { s with srcDim2 := v }
  | .srcLen => { s with srcLen := v }
  | .finRLo => { s with finRLo := v }
  | .finRHi => { s with finRHi := v }
  | .finGLo => { s with finGLo := v }
  | .finGHi => { s with finGHi := v }
  | .finBLo => { s with finBLo := v }
  | .finBHi => { s with finBHi := v }
  | .keyIn => s
  | .keyOut => s

/-- `reg[KEY_IN] <- zext32(rep)` (43_key_decoder.md R202). -/
def State.storeKeyIn (s : State) (rep : Half) : State :=
  { s with keyIn := rep.setWidth 32 }

/-- `reg[RESULT] <- zext32(w)` (10_state.md R31). -/
def State.setResult (s : State) (w : Half) : State :=
  { s with result := w.setWidth 32 }

/-- The encoder registers that plain writes reach, indices 3..13 (40_command_interface.md R123, R124). -/
def lockedWhenBusy : Reg → Bool
  | .cmd => true
  | .status => false
  | .result => false
  | .srcRank => true
  | .srcDim0 => true
  | .srcDim1 => true
  | .srcDim2 => true
  | .srcLen => true
  | .finRLo => true
  | .finRHi => true
  | .finGLo => true
  | .finGHi => true
  | .finBLo => true
  | .finBHi => true
  | .keyIn => false
  | .keyOut => false

/-! Commands and errors. -/

/-- A command word reaches CMD: turned away with OVR <- 1 while BUSY = 1 (40_command_interface.md R123), accepted otherwise:
OVR, ERR and DONE are cleared and the command's own effect `op` follows, all in one step (R121). -/
def acceptCommand (op : State → State) (s : State) : State :=
  if s.busy then s.setOvr else op s.beginCommand

/-- Raising an error: `STATUS.ERR <- code(E)`, `STATUS.DONE <- 1`, nothing else (60_exceptions.md R226). The core has no
vector, no handler and no saved state. There is no return from an error (R228): the next accepted command clears ERR. -/
def State.raise (s : State) (e : ErrorKind) : State :=
  { s with err := errorCode e, done := true }

/-- A CMD write whose word decodes to ILLEGAL (60_exceptions.md R224). -/
def illegalCommand (s : State) : State :=
  acceptCommand (fun u => u.raise .illegalCmd) s

/-! Reset. -/

/-- The RESET access (70_reset_and_hazards.md R250, R251): every register at its reset value, SRC and FOUT with new free
contents (R252). The model's own fields that belong to the host or number the draws go on (log 17). -/
def State.doReset (s : State) : State :=
  { State.reset with
    resets := s.resets + 1
    draws := s.draws
    turn := s.turn
    turns := s.turns
    pending := s.pending
    reads := s.reads }

/-! The host's read log. -/

/-- Record what a host read returned (70_reset_and_hazards.md R262; log 9). -/
def State.record (s : State) (r : ReadValue) : State :=
  { s with reads := s.reads ++ [r] }

end Sys2Proof.Machine
end

