-- ==== Sys2Proof/Machine/Command.lean ====
section
/-! DEFINITION. The NOP command (40_command_interface.md R126). -/

namespace Sys2Proof.Machine

/-- NOP: acceptance clears OVR and ERR, then DONE <- 1 (40_command_interface.md R126). -/
def execNop (s : State) : Host.Outcome State Fault Refusal :=
  .next (acceptCommand State.finish s)

end Sys2Proof.Machine
end

