-- ==== Sys2Proof/Machine/Float.lean ====
section
/-! DEFINITION. Floating-point channel values, exactly, by natural numbers (41_quantizer.md R141 to R143), and the encodings of
values (30_encoding.md R107). A finite value of a
format is a whole number of quanta, a quantum being the format's smallest subnormal; the scale product is exact in quanta, is
rounded once to the format (ties to even), and is then floored (log 3, log 20). -/

namespace Sys2Proof.Machine

/-- The precision of a format in bits, the hidden bit counted (IEEE 754; log 3). -/
def floatPrecision : FloatFmt → Nat
  | .binary32 => 24
  | .binary64 => 53

/-- The all-ones exponent field of a format, which marks infinities and NaNs (IEEE 754; log 3). -/
def floatExpMax : FloatFmt → Nat
  | .binary32 => 255
  | .binary64 => 2047

/-- The quanta in 1.0 are 2 to this power: 2^-149 and 2^-1074 are the smallest subnormals (IEEE 754; log 3). -/
def floatScale : FloatFmt → Nat
  | .binary32 => 149
  | .binary64 => 1074

/-- The number of quanta in 1.0. -/
def oneQuanta (fmt : FloatFmt) : Nat := 2 ^ floatScale fmt

/-- A finite value: its sign (kept for -0.0) and its magnitude in quanta. -/
structure FiniteF where
  neg : Bool
  quanta : Nat
  deriving DecidableEq, Repr

/-- A value of FLOAT_FMT. -/
inductive FVal
  | nan
  | inf (neg : Bool)
  | fin (x : FiniteF)
  deriving DecidableEq, Repr

/-- The value with a sign, an exponent field and a fraction field (IEEE 754; log 3). -/
def fvalOfFields (fmt : FloatFmt) (neg : Bool) (e f : Nat) : FVal :=
  if e = floatExpMax fmt then (if f = 0 then .inf neg else .nan)
  else if e = 0 then .fin { neg := neg, quanta := f }
  else .fin { neg := neg, quanta := (2 ^ (floatPrecision fmt - 1) + f) * 2 ^ (e - 1) }

/-- The value an encoding stands for; binary32 takes the low 32 bits (IEEE 754; log 3). -/
def decodeFloat (fmt : FloatFmt) (bits : BitVec 64) : FVal :=
  match fmt with
  | .binary32 =>
    fvalOfFields .binary32 (bits.getLsbD 31) (bits.extractLsb' 23 8).toNat (bits.extractLsb' 0 23).toNat
  | .binary64 =>
    fvalOfFields .binary64 (bits.getLsbD 63) (bits.extractLsb' 52 11).toNat (bits.extractLsb' 0 52).toNat

/-- `n` rounded to `prec` significant bits, ties to even. In quanta every natural of at most `prec` significant bits is a value
of the format, the subnormals among them, so this is `RNE_F` on the values below the format's overflow threshold
(00_scope.md R13; log 20). -/
def roundSig (prec n : Nat) : Nat :=
  if n < 2 ^ prec then n
  else
    let sh := n.log2 + 1 - prec
    let q := n / 2 ^ sh
    let r := n % 2 ^ sh
    let up := 2 ^ sh < 2 * r || (2 ^ sh == 2 * r && q % 2 == 1)
    (if up then q + 1 else q) * 2 ^ sh

/-- `clampf` (41_quantizer.md R141); no value for a NaN. -/
def clampF (fmt : FloatFmt) : FVal → Option FiniteF
  | .nan => none
  | .inf true => some { neg := false, quanta := 0 }
  | .inf false => some { neg := false, quanta := oneQuanta fmt }
  | .fin x =>
    if x.neg && x.quanta != 0 then some { neg := false, quanta := 0 }
    else if oneQuanta fmt < x.quanta then some { neg := false, quanta := oneQuanta fmt }
    else some x

/-- The scaled value `p = RNE_FLOAT_FMT(c * M)` (41_quantizer.md R142). -/
def scaleF (fmt : FloatFmt) (m : Nat) (c : FiniteF) : FiniteF :=
  { neg := c.neg, quanta := roundSig (floatPrecision fmt) (c.quanta * m) }

/-- `floor(p)`; the only negative value that reaches it is -0.0, whose floor is 0 (41_quantizer.md R143). -/
def floorF (fmt : FloatFmt) (p : FiniteF) : Nat := p.quanta / oneQuanta fmt

/-- `QF(v, M)` for a value that is no NaN (41_quantizer.md R143); none for a NaN (R144). -/
def quantF (fmt : FloatFmt) (m : Nat) (v : FVal) : Option Nat :=
  (clampF fmt v).map (fun c => floorF fmt (scaleF fmt m c))

/-! Encodings of values, for the script lines `fin.X v` (30_encoding.md R107). -/

/-- The number `n / d` rounded to `prec` significant bits, ties to even, and never below the unit (00_scope.md R13; log 20). -/
def roundRat (prec n d : Nat) : Nat :=
  let sh := (n / d).log2 + 1 - prec
  let unit := d * 2 ^ sh
  let q := n / unit
  let r := n % unit
  let up := unit < 2 * r || (unit == 2 * r && q % 2 == 1)
  (if up then q + 1 else q) * 2 ^ sh

/-- The least number of quanta above every finite value of a format, and above those that round to one (IEEE 754; log 3). -/
def overflowQuanta (fmt : FloatFmt) : Nat := 2 ^ (floatPrecision fmt + floatExpMax fmt - 2)

/-- The value of FLOAT_FMT that a script's number stands for: the number rounded to the format (00_scope.md R13; log 22). -/
def floatOf (fmt : FloatFmt) : FloatLit → FVal
  | .num neg n d =>
    let q := roundRat (floatPrecision fmt) (n * oneQuanta fmt) d
    if overflowQuanta fmt ≤ q then .inf neg else .fin { neg := neg, quanta := q }
  | .inf neg => .inf neg
  | .nan => .nan

/-- The encoding with a sign, an exponent field and a fraction field (IEEE 754; log 3). -/
def encFields (fmt : FloatFmt) (neg : Bool) (e f : Nat) : BitVec 64 :=
  BitVec.ofNat 64 ((if neg then 2 ^ (8 * fmt.bytes - 1) else 0) + e * 2 ^ (floatPrecision fmt - 1) + f)

/-- `enc32` and `enc64`: the encoding of a value of the format (30_encoding.md R107; log 3). A NaN has many encodings; which one
is a free value (log 22). -/
def encFloat (fmt : FloatFmt) : FVal → BitVec 64
  | .nan =>
    encFields fmt (Config.nanCode.getLsbD 63) (floatExpMax fmt)
      (1 + Config.nanCode.toNat % (2 ^ (floatPrecision fmt - 1) - 1))
  | .inf neg => encFields fmt neg (floatExpMax fmt) 0
  | .fin x =>
    if x.quanta < 2 ^ (floatPrecision fmt - 1) then encFields fmt x.neg 0 x.quanta
    else
      let e := x.quanta.log2 + 2 - floatPrecision fmt
      encFields fmt x.neg e (x.quanta / 2 ^ (e - 1) - 2 ^ (floatPrecision fmt - 1))

end Sys2Proof.Machine
end

