-- ==== Sys2Proof/Machine/Operands.lean ====
section
/-! DEFINITION. Operand forms: the FIN registers as FLOAT_FMT values (10_state.md R36), the elements of the source array in
SRC (20_memory.md R63, R64), the scan order (42_frame_packer.md R177) and the byte orders (20_memory.md R71). -/

namespace Sys2Proof.Machine

/-- The FLOAT_FMT encoding in a FIN register pair: `{HI, LO}` for binary64, LO alone for binary32, where HI is ignored
(10_state.md R36). -/
def finBits (fmt : FloatFmt) (hi lo : Word) : BitVec 64 :=
  match fmt with
  | .binary32 => lo.setWidth 64
  | .binary64 => (hi.setWidth 64 <<< 32) ||| lo.setWidth 64

/-- The red operand of CVTF (10_state.md R36). -/
def State.finRed (fmt : FloatFmt) (s : State) : FVal := decodeFloat fmt (finBits fmt s.finRHi s.finRLo)

/-- The green operand of CVTF (10_state.md R36). -/
def State.finGreen (fmt : FloatFmt) (s : State) : FVal := decodeFloat fmt (finBits fmt s.finGHi s.finGLo)

/-- The blue operand of CVTF (10_state.md R36). -/
def State.finBlue (fmt : FloatFmt) (s : State) : FVal := decodeFloat fmt (finBits fmt s.finBHi s.finBLo)

/-- The flat element index `e(a, b, c)` of the 320 x 240 x 3 source array (20_memory.md R63). -/
def elemIndex (a b c : Nat) : Nat := (a * 240 + b) * 3 + c

/-- `MemRead(SRC, a, n)`: the bytes `SRC[a] .. SRC[a+n-1]` in address order (00_scope.md R13). -/
def memReadSrc (s : State) (a : Nat) : Nat → List Byte
  | 0 => []
  | n + 1 => s.srcByte a :: memReadSrc s (a + 1) n

/-- A byte list as one number, most significant byte first. -/
def concatBytes (bytes : List Byte) : BitVec 64 :=
  BitVec.ofNat 64 (bytes.foldl (fun acc b => acc * 256 + b.toNat) 0)

/-- Put a byte list most significant byte first, given the order it is stored in (20_memory.md R64). -/
def orderBytes (o : ByteOrder) (bytes : List Byte) : List Byte :=
  match o with
  | .le => bytes.reverse
  | .be => bytes

/-- `FloatElem(e)` (20_memory.md R64). -/
def floatElem (P : Params) (s : State) (e : Nat) : FVal :=
  decodeFloat P.floatFmt
    (concatBytes (orderBytes P.srcFloatOrder (memReadSrc s (e * P.floatFmt.bytes) P.floatFmt.bytes)))

/-- The source pixel `(a, b) = scan(k)` of payload pixel `k` (42_frame_packer.md R177). -/
def scan (o : ScanOrder) (k : Nat) : Nat × Nat :=
  match o with
  | .aOuter => (k / 240, k % 240)
  | .bOuter => (k % 320, k / 320)

/-- Byte half `h` of an RGB565 word in the payload: LE puts the low byte in half 0, BE the high byte
(42_frame_packer.md R178). -/
def wordHalf (o : ByteOrder) (w : Half) (h : Nat) : Byte :=
  match o with
  | .le => if h = 0 then w.extractLsb' 0 8 else w.extractLsb' 8 8
  | .be => if h = 0 then w.extractLsb' 8 8 else w.extractLsb' 0 8

end Sys2Proof.Machine
end

