-- ==== Sys2Proof/Machine/Quantizer.lean ====
section
/-! DEFINITION. The pixel quantizer (41_quantizer.md): the channel and pixel functions, and CVT888, CVTF and PACK565. -/

namespace Sys2Proof.Machine

/-- `PACK(r5, g6, b5) = (r5 << 11) | (g6 << 5) | b5` (41_quantizer.md R145). -/
def pack (r5 : BitVec 5) (g6 : BitVec 6) (b5 : BitVec 5) : Half :=
  (r5.setWidth 16 <<< 11) ||| (g6.setWidth 16 <<< 5) ||| b5.setWidth 16

/-- `Q888(r, g, b)`: the truncating quantization of an 8-bit pixel, packed (41_quantizer.md R140, R146). -/
def q888 (r g b : Byte) : Half :=
  pack ((r >>> 3).setWidth 5) ((g >>> 2).setWidth 6) ((b >>> 3).setWidth 5)

/-- The red field of a float channel: `QF(v, 31)`, or the free value of drawing `d` at pixel `k` for a NaN
(41_quantizer.md R143, R144). -/
def redField (fmt : FloatFmt) (d k : Nat) (v : FVal) : BitVec 5 :=
  match quantF fmt 31 v with
  | some q => BitVec.ofNat 5 q
  | none => Config.nanRed d k

/-- The green field of a float channel: `QF(v, 63)`, or the free value for a NaN (41_quantizer.md R143, R144). -/
def greenField (fmt : FloatFmt) (d k : Nat) (v : FVal) : BitVec 6 :=
  match quantF fmt 63 v with
  | some q => BitVec.ofNat 6 q
  | none => Config.nanGreen d k

/-- The blue field of a float channel: `QF(v, 31)`, or the free value for a NaN (41_quantizer.md R143, R144). -/
def blueField (fmt : FloatFmt) (d k : Nat) (v : FVal) : BitVec 5 :=
  match quantF fmt 31 v with
  | some q => BitVec.ofNat 5 q
  | none => Config.nanBlue d k

/-- `QFP(vr, vg, vb)` with the NaN channels of drawing `d` at pixel `k` (41_quantizer.md R146, R144). -/
def qfp (fmt : FloatFmt) (d k : Nat) (vr vg vb : FVal) : Half :=
  pack (redField fmt d k vr) (greenField fmt d k vg) (blueField fmt d k vb)

/-- A command that may draw NaN values takes the next drawing number, which names its free values (log 4). -/
def State.nextDraw (s : State) : State :=
  { s with draws := s.draws + 1 }

/-- The end of a quantizer command: RESULT <- zext32(w), DONE <- 1 (41_quantizer.md R147 to R149). -/
def State.deliver (s : State) (w : Half) : State :=
  (s.setResult w).finish

/-- The CVTF effect: the FIN registers as a float pixel, quantized under the drawing's own number (41_quantizer.md R148). -/
def convertFin (fmt : FloatFmt) (s : State) : State :=
  s.deliver (qfp fmt s.draws 0 (s.finRed fmt) (s.finGreen fmt) (s.finBlue fmt))

/-- CVT888 (41_quantizer.md R147). -/
def execCvt888 (r g b : Byte) (s : State) : Host.Outcome State Fault Refusal :=
  .next (acceptCommand (fun u => u.deliver (q888 r g b)) s)

/-- CVTF (41_quantizer.md R148). -/
def execCvtf (s : State) : Host.Outcome State Fault Refusal :=
  .next (acceptCommand (fun u => convertFin Config.floatFmt u.nextDraw) s)

/-- PACK565 (41_quantizer.md R149). -/
def execPack565 (r5 : BitVec 5) (g6 : BitVec 6) (b5 : BitVec 5) (s : State) : Host.Outcome State Fault Refusal :=
  .next (acceptCommand (fun u => u.deliver (pack r5 g6 b5)) s)

end Sys2Proof.Machine
end

