-- ==== Sys2Proof/Machine/FramePacker.lean ====
section
/-! DEFINITION. The frame packer (42_frame_packer.md): the frame's bytes, the sequencer step, and the FRAME commands. -/

namespace Sys2Proof.Machine

/-! The frame layout. -/

/-- The 16 header bytes, offset 0 first (42_frame_packer.md R172; log 19). -/
def headerBytes : List Byte :=
  [0x10#8, 0x0F#8, 0x00#8, 0x58#8, 0x02#8, 0x00#8, 0x00#8, 0x00#8,
   0x00#8, 0x00#8, 0x00#8, 0x3F#8, 0x01#8, 0xEF#8, 0x00#8, 0x0F#8]

/-- `PixU8(k)`: the word of payload pixel `k` for 8-bit channels (42_frame_packer.md R176). -/
def pixU8 (P : Params) (s : State) (k : Nat) : Half :=
  let a := (scan P.scanOrder k).1
  let b := (scan P.scanOrder k).2
  q888 (s.srcByte (elemIndex a b 0)) (s.srcByte (elemIndex a b 1)) (s.srcByte (elemIndex a b 2))

/-- `PixF(k)`: the word of payload pixel `k` for float channels; NaN channels are drawn once per channel, pixel and job
(42_frame_packer.md R179). -/
def pixF (P : Params) (s : State) (k : Nat) : Half :=
  let a := (scan P.scanOrder k).1
  let b := (scan P.scanOrder k).2
  qfp P.floatFmt s.draws k
    (floatElem P s (elemIndex a b 0)) (floatElem P s (elemIndex a b 1)) (floatElem P s (elemIndex a b 2))

/-- Payload byte `j` (42_frame_packer.md R175, R180). -/
def payloadByte (P : Params) (s : State) (j : Nat) : Byte :=
  match s.jobEtype with
  | .raw => s.srcByte j
  | .u8 => wordHalf P.payloadEndian (pixU8 P s (j / 2)) (j % 2)
  | .float => wordHalf P.payloadEndian (pixF P s (j / 2)) (j % 2)

/-- `FrameByte(p)` (42_frame_packer.md R180). -/
def frameByte (P : Params) (s : State) (p : Nat) : Byte :=
  if p < 16 then headerBytes.getD p 0#8
  else if p < 256 then BitVec.ofNat 8 p
  else if p < 512 then BitVec.ofNat 8 (p - 256)
  else payloadByte P s (p - 512)

/-- The phases of a frame job (10_state.md R43). -/
inductive Phase
  | idle
  | header
  | tableA
  | tableB
  | payload
  deriving DecidableEq, Repr

/-- The phase, a function of BUSY and POS (10_state.md R43). -/
def State.phase (s : State) : Phase :=
  if s.busy = false then .idle
  else if s.pos.toNat < 16 then .header
  else if s.pos.toNat < 256 then .tableA
  else if s.pos.toNat < 512 then .tableB
  else .payload

/-! The sequencer. -/

/-- POS <- POS + 1 (42_frame_packer.md R181). -/
def State.advancePos (s : State) : State :=
  { s with pos := s.pos + 1#18 }

/-- The last frame byte is written: the job completes (42_frame_packer.md R181). -/
def State.completeAtEnd (s : State) : State :=
  if s.pos.toNat = frameBytes then s.markComplete else s

/-- One sequencer step, SEQ, enabled iff BUSY = 1 (42_frame_packer.md R181; log 15). -/
def seqStep (P : Params) (s : State) : State :=
  ((s.putFout s.pos.toNat (frameByte P s s.pos.toNat)).advancePos).completeAtEnd

/-! The FRAME commands. -/

/-- The descriptor describes a 320 x 240 x 3 array (60_exceptions.md R221). -/
def State.shapeValid (s : State) : Bool :=
  s.srcRank == 3#32 && s.srcDim0 == 320#32 && s.srcDim1 == 240#32 && s.srcDim2 == 3#32

/-- The descriptor describes a payload of 153,600 bytes (60_exceptions.md R222). -/
def State.lengthValid (s : State) : Bool :=
  s.srcLen == 153600#32

/-- A valid FRAME command starts its job (42_frame_packer.md R186), under a drawing number of its own (log 4). -/
def State.startJob (s : State) (t : JobEtype) : State :=
  ({ s with jobEtype := t, pos := 0#18 } : State).nextDraw.markRunning

/-- `exec_FRAME_accept(t)` (42_frame_packer.md R186): the element type is checked before the descriptor
(60_exceptions.md R225). -/
def acceptFrame (t : BitVec 4) (s : State) : State :=
  match t.toNat with
  | 0 => if s.shapeValid then s.startJob .u8 else s.raise .shape
  | 1 => if s.shapeValid then s.startJob .float else s.raise .shape
  | 2 => if s.lengthValid then s.startJob .raw else s.raise .length
  | _ => s.raise .unsupportedFormat

/-- FRAME.U8 (42_frame_packer.md R183). -/
def execFrameU8 (s : State) : Host.Outcome State Fault Refusal :=
  .next (acceptCommand (acceptFrame 0#4) s)

/-- FRAME.F (42_frame_packer.md R184). -/
def execFrameF (s : State) : Host.Outcome State Fault Refusal :=
  .next (acceptCommand (acceptFrame 1#4) s)

/-- FRAME.RAW (42_frame_packer.md R185). -/
def execFrameRaw (s : State) : Host.Outcome State Fault Refusal :=
  .next (acceptCommand (acceptFrame 2#4) s)

/-- FRAME with ETYPE 3: raises UNSUPPORTED_FORMAT (60_exceptions.md R223). -/
def execFrameT3 (s : State) : Host.Outcome State Fault Refusal :=
  .next (acceptCommand (acceptFrame 3#4) s)

/-- FRAME with ETYPE 4: raises UNSUPPORTED_FORMAT (60_exceptions.md R223). -/
def execFrameT4 (s : State) : Host.Outcome State Fault Refusal :=
  .next (acceptCommand (acceptFrame 4#4) s)

/-- FRAME with ETYPE 5: raises UNSUPPORTED_FORMAT (60_exceptions.md R223). -/
def execFrameT5 (s : State) : Host.Outcome State Fault Refusal :=
  .next (acceptCommand (acceptFrame 5#4) s)

/-- FRAME with ETYPE 6: raises UNSUPPORTED_FORMAT (60_exceptions.md R223). -/
def execFrameT6 (s : State) : Host.Outcome State Fault Refusal :=
  .next (acceptCommand (acceptFrame 6#4) s)

/-- FRAME with ETYPE 7: raises UNSUPPORTED_FORMAT (60_exceptions.md R223). -/
def execFrameT7 (s : State) : Host.Outcome State Fault Refusal :=
  .next (acceptCommand (acceptFrame 7#4) s)

/-- FRAME with ETYPE 8: raises UNSUPPORTED_FORMAT (60_exceptions.md R223). -/
def execFrameT8 (s : State) : Host.Outcome State Fault Refusal :=
  .next (acceptCommand (acceptFrame 8#4) s)

/-- FRAME with ETYPE 9: raises UNSUPPORTED_FORMAT (60_exceptions.md R223). -/
def execFrameT9 (s : State) : Host.Outcome State Fault Refusal :=
  .next (acceptCommand (acceptFrame 9#4) s)

/-- FRAME with ETYPE 10: raises UNSUPPORTED_FORMAT (60_exceptions.md R223). -/
def execFrameT10 (s : State) : Host.Outcome State Fault Refusal :=
  .next (acceptCommand (acceptFrame 10#4) s)

/-- FRAME with ETYPE 11: raises UNSUPPORTED_FORMAT (60_exceptions.md R223). -/
def execFrameT11 (s : State) : Host.Outcome State Fault Refusal :=
  .next (acceptCommand (acceptFrame 11#4) s)

/-- FRAME with ETYPE 12: raises UNSUPPORTED_FORMAT (60_exceptions.md R223). -/
def execFrameT12 (s : State) : Host.Outcome State Fault Refusal :=
  .next (acceptCommand (acceptFrame 12#4) s)

/-- FRAME with ETYPE 13: raises UNSUPPORTED_FORMAT (60_exceptions.md R223). -/
def execFrameT13 (s : State) : Host.Outcome State Fault Refusal :=
  .next (acceptCommand (acceptFrame 13#4) s)

/-- FRAME with ETYPE 14: raises UNSUPPORTED_FORMAT (60_exceptions.md R223). -/
def execFrameT14 (s : State) : Host.Outcome State Fault Refusal :=
  .next (acceptCommand (acceptFrame 14#4) s)

/-- FRAME with ETYPE 15: raises UNSUPPORTED_FORMAT (60_exceptions.md R223). -/
def execFrameT15 (s : State) : Host.Outcome State Fault Refusal :=
  .next (acceptCommand (acceptFrame 15#4) s)

end Sys2Proof.Machine
end

