-- ==== Sys2Proof/Machine/KeyDecoder.lean ====
section
/-! DEFINITION. The keystate decoder (43_key_decoder.md): the ButtonState of a report and the KEYDEC write. -/

namespace Sys2Proof.Machine

/-- The nine named flags of a decoded report (43_key_decoder.md R200). -/
structure ButtonState where
  up : Bool
  down : Bool
  left : Bool
  right : Bool
  ok : Bool
  window : Bool
  back : Bool
  menu : Bool
  light : Bool
  deriving DecidableEq, Repr

/-- `KEYMAP(rep)` (43_key_decoder.md R200). -/
def keymap (rep : Half) : ButtonState :=
  { up := rep.getLsbD 15
    down := rep.getLsbD 14
    left := rep.getLsbD 13
    right := rep.getLsbD 12
    ok := rep.getLsbD 11
    window := rep.getLsbD 10
    back := rep.getLsbD 9
    menu := rep.getLsbD 8
    light := false }

/-- KEYDEC: KEY_IN <- zext32(rep), at every time, STATUS unchanged (43_key_decoder.md R202, R206). -/
def execKeydec (rep : Half) (s : State) : Host.Outcome State Fault Refusal :=
  .next (s.storeKeyIn rep)

end Sys2Proof.Machine
end

