-- ==== Sys2Proof/Machine/Dispatch.lean ====
section
/-! DEFINITION. The dispatch of every instruction to its meaning, one arm per constructor. -/

namespace Sys2Proof.Machine

/-- The meaning of an instruction in a state. For a command it is the effect of writing its word to CMD
(40_command_interface.md R121, R123), for KEYDEC the effect of writing its report to KEY_IN. -/
def exec (i : Instr) (s : State) : Host.Outcome State Fault Refusal :=
  match i with
  | .nop => Sys2Proof.Machine.execNop s
  | .cvt888 r g b => Sys2Proof.Machine.execCvt888 r g b s
  | .cvtf => Sys2Proof.Machine.execCvtf s
  | .pack565 r5 g6 b5 => Sys2Proof.Machine.execPack565 r5 g6 b5 s
  | .frameU8 => Sys2Proof.Machine.execFrameU8 s
  | .frameF => Sys2Proof.Machine.execFrameF s
  | .frameRaw => Sys2Proof.Machine.execFrameRaw s
  | .frameT3 => Sys2Proof.Machine.execFrameT3 s
  | .frameT4 => Sys2Proof.Machine.execFrameT4 s
  | .frameT5 => Sys2Proof.Machine.execFrameT5 s
  | .frameT6 => Sys2Proof.Machine.execFrameT6 s
  | .frameT7 => Sys2Proof.Machine.execFrameT7 s
  | .frameT8 => Sys2Proof.Machine.execFrameT8 s
  | .frameT9 => Sys2Proof.Machine.execFrameT9 s
  | .frameT10 => Sys2Proof.Machine.execFrameT10 s
  | .frameT11 => Sys2Proof.Machine.execFrameT11 s
  | .frameT12 => Sys2Proof.Machine.execFrameT12 s
  | .frameT13 => Sys2Proof.Machine.execFrameT13 s
  | .frameT14 => Sys2Proof.Machine.execFrameT14 s
  | .frameT15 => Sys2Proof.Machine.execFrameT15 s
  | .keydec rep => Sys2Proof.Machine.execKeydec rep s

end Sys2Proof.Machine
end

