-- ==== Sys2Proof/Machine/Access.lean ====
section
/-! DEFINITION. The host's six accesses (40_command_interface.md R120), the polling loop `wait` (30_encoding.md R107) and the choice of the agent that moves
(00_scope.md R14). -/

namespace Sys2Proof.Machine

/-- A register write that carries no instruction (40_command_interface.md R124): STATUS, RESULT and KEY_OUT ignore it; the
descriptor and FIN registers store it, or, while BUSY = 1, lose it and set OVR (R123). -/
def plainWrite (r : Reg) (v : Word) (s : State) : State :=
  if lockedWhenBusy r && s.busy then s.setOvr else s.storeReg r v

/-- `REG_WR(i, v)` (40_command_interface.md R124). Decoding before the busy test changes nothing: with BUSY = 1 every command
word, illegal or not, has the one effect of setting OVR (log 11). -/
def regWrite (i : BitVec 4) (v : Word) (s : State) : Host.Outcome State Fault Refusal :=
  match decodeWrite i v with
  | some (.instr ins) => exec ins s
  | some (.illegal _) => .next (illegalCommand s)
  | none => .next (plainWrite (regOfIndex i) v s)

/-- The byte `SRC_RD(a)` returns: allowed at every time, 0x00 out of range (20_memory.md R66, R69). -/
def srcRead (a : BitVec 32) (s : State) : Byte :=
  if a.toNat < Config.srcBytes then s.srcByte a.toNat else 0#8

/-- `SRC_WR(a, b)`: with BUSY = 1 ignored and OVR set, whatever the address (20_memory.md R66, R69); out of range ignored;
otherwise the byte is stored. -/
def srcWrite (a : BitVec 32) (b : Byte) (s : State) : State :=
  if s.busy then s.setOvr
  else if a.toNat < Config.srcBytes then s.putSrc a.toNat b
  else s

/-- The byte `FOUT_RD(a)` returns: 0x00 while BUSY = 1 and out of range (20_memory.md R68). -/
def foutRead (a : BitVec 32) (s : State) : Byte :=
  if s.busy then 0#8
  else if a.toNat < frameBytes then s.foutByte a.toNat
  else 0#8

/-- One host access, one step (40_command_interface.md R120). A read changes nothing but the host's own record of it. -/
def performAccess (a : HostAccess) (s : State) : Host.Outcome State Fault Refusal :=
  match a with
  | .regRd i => .next (s.record (.reg i (s.readReg (regOfIndex i))))
  | .regWr i v => regWrite i v s
  | .srcRd ad => .next (s.record (.src ad (srcRead ad s)))
  | .srcWr ad b => .next (srcWrite ad b s)
  | .foutRd ad => .next (s.record (.fout ad (foutRead ad s)))
  | .reset => .next s.doReset

/-- The host adds operations after those it has still to perform. This is the outside world's move between two steps, not a
step of the core (log 7). -/
def State.submit (s : State) (ops : List HostOp) : State :=
  { s with pending := s.pending ++ ops }

/-! The host's operations. -/

/-- The access an operation performs: `wait` reads STATUS (30_encoding.md R107). -/
def accessOf : HostOp → HostAccess
  | .access a => a
  | .wait => .regRd (regIndex .status)

/-- `wait` repeats while bit 0 of the STATUS word it read is 1 (30_encoding.md R107). -/
def waitAgain (status : Word) : Bool := status.getLsbD 0

/-- Whether the host performs the same operation again after this one: `wait` does, as the word it reads says. -/
def opRepeats (op : HostOp) (s : State) : Bool :=
  match op with
  | .access _ => false
  | .wait => waitAgain (s.readReg .status)

/-- What is left to do once the oldest operation is performed. -/
def pendingAfter (s : State) : List HostOp :=
  match s.pending with
  | [] => []
  | op :: rest => if opRepeats op s then op :: rest else rest

/-- Which agent moves next (00_scope.md R14): the host is enabled while an operation is pending, the sequencer while BUSY = 1
(42_frame_packer.md R181); between two enabled agents the free turn decides (log 8); `none` when neither is enabled. -/
def nextMover (s : State) : Option Agent :=
  match s.pending, s.busy with
  | [], false => none
  | [], true => some .sequencer
  | _ :: _, false => some .host
  | _ :: _, true => some s.turn

/-- A step is taken: the next turn is drawn (log 8). -/
def State.drawTurn (s : State) : State :=
  { s with turn := Config.freeTurn s.turns, turns := s.turns + 1 }

/-- The host's oldest operation leaves the list as it is performed, unless it repeats. -/
def State.takeOp (s : State) : State :=
  { s with pending := pendingAfter s }

/-- The host moves: the access of its oldest operation is performed. -/
def hostMove (s : State) : Host.Outcome State Fault Refusal :=
  match s.pending with
  | [] => .next s
  | op :: _ => performAccess (accessOf op) s.takeOp.drawTurn

/-- The sequencer moves (42_frame_packer.md R181). -/
def sequencerMove (s : State) : Host.Outcome State Fault Refusal :=
  .next (seqStep Config.params s.drawTurn)

/-- The move of the agent chosen; with neither enabled the run is over (70_reset_and_hazards.md R262) and the state stays as
it is (log 10). -/
def move (s : State) : Host.Outcome State Fault Refusal :=
  match nextMover s with
  | some .host => hostMove s
  | some .sequencer => sequencerMove s
  | none => .next s

/-- A command word placed as the very next access: first in the pending list, with the turn given to the host (log 13). -/
def placeCommand (w : Word) (s : State) : State :=
  { s with pending := .access (.regWr 0#4 w) :: s.pending, turn := .host }

end Sys2Proof.Machine
end

