-- ==== Sys2Proof/Machine/Step.lean ====
section
/-! DEFINITION. One step of the core: one host access or one sequencer step (00_scope.md R14), and where a command comes
from. The core fetches nothing (10_state.md R40): its next instruction is the host's next write to CMD or KEY_IN. -/

namespace Sys2Proof.Machine

/-- One step of the core (00_scope.md R14). -/
def step (s : State) : Host.Outcome State Fault Refusal := move s

/-- `s` with a command word as the very next access of the host (log 13). -/
def State.withFetchWord (s : State) (nbits w : Nat) : State :=
  placeCommand (tableWord nbits w) s

end Sys2Proof.Machine
end

