-- ==== Sys2Proof/WellFormed.lean ====
section
/-! DEFINITION. Well-formedness. An `Instr` holds its operands at the widths of their encodings, so every value of the type
is well formed (30_encoding.md R103, 92_eei_decisions.md D36) and its check has nothing to refuse. The checks that can refuse
are the operand ranges of host-script lines: "An operand outside its stated range is a host-script error, not a command"
(30_encoding.md R105, R106). -/

namespace Sys2Proof

/-- Every instruction the type can hold has an encoding (30_encoding.md R103). -/
def Instr.wellFormed : Instr → Bool
  | .nop => true
  | .cvt888 _ _ _ => true
  | .cvtf => true
  | .pack565 _ _ _ => true
  | .frameU8 => true
  | .frameF => true
  | .frameRaw => true
  | .frameT3 => true
  | .frameT4 => true
  | .frameT5 => true
  | .frameT6 => true
  | .frameT7 => true
  | .frameT8 => true
  | .frameT9 => true
  | .frameT10 => true
  | .frameT11 => true
  | .frameT12 => true
  | .frameT13 => true
  | .frameT14 => true
  | .frameT15 => true
  | .keydec _ => true

/-- The operand ranges of 30_encoding.md R105 to R107: 32-bit register values and addresses, 8-bit bytes, and the ranges
R106 states for each command. A decimal's denominator is not 0. -/
def ScriptLine.operandsOk : ScriptLine → Bool
  | .wr _ v => decide (v < 4294967296)
  | .rd _ => true
  | .swr a b => decide (a < 4294967296) && decide (b < 256)
  | .srd a => decide (a < 4294967296)
  | .frd a => decide (a < 4294967296)
  | .reset => true
  | .nop => true
  | .cvt888 r g b => decide (r < 256) && decide (g < 256) && decide (b < 256)
  | .cvtf => true
  | .pack565 r5 g6 b5 => decide (r5 < 32) && decide (g6 < 64) && decide (b5 < 32)
  | .frameU8 => true
  | .frameF => true
  | .frameRaw => true
  | .frameT t => decide (t < 16)
  | .keydec rep => decide (rep < 65536)
  | .wait => true
  | .shape => true
  | .rawlen => true
  | .fin _ (.num _ _ d) => decide (d ≠ 0)
  | .fin _ (.inf _) => true
  | .fin _ .nan => true
  | .sfill a n b => decide (a + n ≤ 4294967296) && decide (b < 256)

end Sys2Proof
end

