-- ==== Sys2Proof/Machine/Script.lean ====
section
/-! DEFINITION. The host-script notation (30_encoding.md R105 to R107): the host operations each line stands for, in the form
`State.submit` takes. A line with an operand out of its range is refused before any access is issued (R106;
93_implementation_defined.md U15). -/

namespace Sys2Proof.Machine

/-- A write of a word to a register. -/
def wrOp (r : Reg) (w : Word) : HostOp := .access (.regWr (regIndex r) w)

/-- A command mnemonic is exactly one `wr CMD, w` (30_encoding.md R106). -/
def cmdOp (i : Instr) : HostOp := .access (.regWr (encodeIndex i) (encodeWord i))

/-- `sfill a, n, b`: `n` writes of `b` from address `a` up (30_encoding.md R107). -/
def sfillOps (a : Nat) (b : Byte) : Nat → List HostOp
  | 0 => []
  | n + 1 => .access (.srcWr (BitVec.ofNat 32 a) b) :: sfillOps (a + 1) b n

/-- The low and high FIN registers of a channel (10_state.md R35). -/
def finRegs : Channel → Reg × Reg
  | .red => (.finRLo, .finRHi)
  | .green => (.finGLo, .finGHi)
  | .blue => (.finBLo, .finBHi)

/-- `fin.X v` in each format, from the encoding of `v` (30_encoding.md R107). -/
def finOps (fmt : FloatFmt) (x : Channel) (enc : BitVec 64) : List HostOp :=
  match fmt with
  | .binary32 => [wrOp (finRegs x).1 (enc.extractLsb' 0 32)]
  | .binary64 => [wrOp (finRegs x).1 (enc.extractLsb' 0 32), wrOp (finRegs x).2 (enc.extractLsb' 32 32)]

/-- The operations of a line whose operands are in range (30_encoding.md R105 to R107; log 21). -/
def scriptOps (fmt : FloatFmt) : ScriptLine → List HostOp
  | .wr r v => [wrOp r (BitVec.ofNat 32 v)]
  | .rd r => [.access (.regRd (regIndex r))]
  | .swr a b => [.access (.srcWr (BitVec.ofNat 32 a) (BitVec.ofNat 8 b))]
  | .srd a => [.access (.srcRd (BitVec.ofNat 32 a))]
  | .frd a => [.access (.foutRd (BitVec.ofNat 32 a))]
  | .reset => [.access .reset]
  | .nop => [cmdOp .nop]
  | .cvt888 r g b => [cmdOp (.cvt888 (BitVec.ofNat 8 r) (BitVec.ofNat 8 g) (BitVec.ofNat 8 b))]
  | .cvtf => [cmdOp .cvtf]
  | .pack565 r5 g6 b5 => [cmdOp (.pack565 (BitVec.ofNat 5 r5) (BitVec.ofNat 6 g6) (BitVec.ofNat 5 b5))]
  | .frameU8 => [cmdOp .frameU8]
  | .frameF => [cmdOp .frameF]
  | .frameRaw => [cmdOp .frameRaw]
  | .frameT t => [cmdOp (frameInstr (BitVec.ofNat 4 t))]
  | .keydec rep => [cmdOp (.keydec (BitVec.ofNat 16 rep))]
  | .wait => [.wait]
  | .shape => [wrOp .srcRank 3#32, wrOp .srcDim0 320#32, wrOp .srcDim1 240#32, wrOp .srcDim2 3#32]
  | .rawlen => [wrOp .srcLen 153600#32]
  | .fin x v => finOps fmt x (encFloat fmt (floatOf fmt v))
  | .sfill a n b => sfillOps a (BitVec.ofNat 8 b) n

/-- The operations a script line stands for; none where the script refuses it (30_encoding.md R106). -/
def expandLine (fmt : FloatFmt) (l : ScriptLine) : Option (List HostOp) :=
  if l.operandsOk then some (scriptOps fmt l) else none

/-- The operations of a whole script; none where any line is refused (93_implementation_defined.md U15). -/
def expandScript (fmt : FloatFmt) : List ScriptLine → Option (List HostOp)
  | [] => some []
  | l :: rest =>
    match expandLine fmt l, expandScript fmt rest with
    | some x, some y => some (x ++ y)
    | _, _ => none

end Sys2Proof.Machine
end

