-- ==== Sys2Proof/Safety.lean ====
section
/-! DEFINITION. What counts as a safe run, in the terms the claims use: the invariant of the core, in its parts, and what
statements about frames and floating-point channels share. -/

namespace Sys2Proof.Machine

/-- The STATUS combinations the rules can produce (10_state.md R30), and the error codes ever written (R28). -/
def StatusInv (s : State) : Prop :=
  (s.busy = true → s.done = false ∧ s.fvalid = false ∧ s.err = 0#4) ∧
  (s.err ≠ 0#4 → s.busy = false ∧ s.done = true ∧ s.ovr = false) ∧
  s.err.toNat ≤ 4

/-- POS stays in 0..153,856 and a running job is before the end of the frame (10_state.md R41). -/
def PosInv (s : State) : Prop :=
  s.pos.toNat ≤ frameBytes ∧ (s.busy = true → s.pos.toNat < frameBytes)

/-- RESULT and KEY_IN hold 16-bit values: bits 31:16 are zero (10_state.md R31, R37). -/
def HalfRegInv (s : State) : Prop :=
  s.result.extractLsb' 16 16 = 0#16 ∧ s.keyIn.extractLsb' 16 16 = 0#16

/-- SRC and FOUT keep their canonical form within their sizes (20_memory.md R62, R67). -/
def MemoryInv (s : State) : Prop :=
  Memory.wf Config.srcBytes s.src ∧ Memory.wf frameBytes s.fout

/-- A running job has a valid descriptor of its element type (42_frame_packer.md R186; 40_command_interface.md R123). -/
def DescriptorInv (s : State) : Prop :=
  s.busy = true →
    match s.jobEtype with
    | .u8 => s.shapeValid = true
    | .float => s.shapeValid = true
    | .raw => s.lengthValid = true

/-- While a job runs, every byte before POS is the frame's byte (42_frame_packer.md R170, R181). -/
def ProgressInv (s : State) : Prop :=
  s.busy = true → ∀ p, p < s.pos.toNat → Memory.read s.fout p = some (frameByte Config.params s p)

/-- With FVALID = 1 every byte of FOUT is defined and the first 512 are the header and the tables
(42_frame_packer.md R188). -/
def FrameInv (s : State) : Prop :=
  s.fvalid = true →
    (∀ p, p < frameBytes → (Memory.read s.fout p).isSome = true) ∧
    ∀ p, p < 512 → s.foutByte p = frameByte Config.params s p

/-- The invariant of the core. -/
structure Inv (s : State) : Prop where
  status : StatusInv s
  pos : PosInv s
  halves : HalfRegInv s
  memory : MemoryInv s
  descriptor : DescriptorInv s
  progress : ProgressInv s
  frame : FrameInv s

/-! What a statement about floating-point channels says, in parts. -/

/-- `w` is the RGB565 word of a float pixel under drawing `d` at payload pixel `k` (41_quantizer.md R143 to R146): a channel that
is no NaN has its quantized value in its field, a NaN channel the free value (log 4). -/
def FloatPixelWord (fmt : FloatFmt) (d k : Nat) (vr vg vb : FVal) (w : Half) : Prop :=
  (vr ≠ .nan → quantF fmt 31 vr = some (w.extractLsb' 11 5).toNat) ∧
  (vg ≠ .nan → quantF fmt 63 vg = some (w.extractLsb' 5 6).toNat) ∧
  (vb ≠ .nan → quantF fmt 31 vb = some (w.extractLsb' 0 5).toNat) ∧
  (vr = .nan → w.extractLsb' 11 5 = Config.nanRed d k) ∧
  (vg = .nan → w.extractLsb' 5 6 = Config.nanGreen d k) ∧
  (vb = .nan → w.extractLsb' 0 5 = Config.nanBlue d k)

/-- `r` is the fraction `n / d` rounded by roundTiesToEven to a whole number of quanta with at most `prec` significant bits
(00_scope.md R13): no such number is nearer, and where another is as near, `r` has the even significand (which, for a subnormal,
is `r` itself). -/
def RoundsTo (prec n d r : Nat) : Prop :=
  (∃ q e, q < 2 ^ prec ∧ r = q * 2 ^ e) ∧
  ∀ q e : Nat, q < 2 ^ prec →
    (((r * d : Nat) : Int) - n).natAbs ≤ (((q * 2 ^ e * d : Nat) : Int) - n).natAbs ∧
    ((((r * d : Nat) : Int) - n).natAbs = (((q * 2 ^ e * d : Nat) : Int) - n).natAbs → q * 2 ^ e ≠ r →
      ∃ q' e', q' < 2 ^ prec ∧ q' % 2 = 0 ∧ (2 ^ (prec - 1) ≤ q' ∨ e' = 0) ∧ r = q' * 2 ^ e')

/-! What a frame statement says is unchanged, in parts. -/

/-- The descriptor and the FIN registers are unchanged. -/
def SameOperands (s t : State) : Prop :=
  t.srcRank = s.srcRank ∧ t.srcDim0 = s.srcDim0 ∧ t.srcDim1 = s.srcDim1 ∧ t.srcDim2 = s.srcDim2 ∧
  t.srcLen = s.srcLen ∧ t.finRLo = s.finRLo ∧ t.finRHi = s.finRHi ∧ t.finGLo = s.finGLo ∧ t.finGHi = s.finGHi ∧
  t.finBLo = s.finBLo ∧ t.finBHi = s.finBHi

/-- Every byte of SRC and of FOUT reads as before. -/
def SameBytes (s t : State) : Prop :=
  (∀ a, t.srcByte a = s.srcByte a) ∧ ∀ a, t.foutByte a = s.foutByte a

/-- The host's side is unchanged: its pending operations, its record of what it read, and whose turn it is. -/
def SameHost (s t : State) : Prop :=
  t.pending = s.pending ∧ t.reads = s.reads ∧ t.turn = s.turn ∧ t.turns = s.turns

end Sys2Proof.Machine
end

