-- ==== Sys2Proof/Certificates/Slice0/Obligations.lean ====
section
/-! DEFINITION. The statements for the provers. Each docstring names the rule or section of spec/ it formalises. -/

open Sys2Proof Sys2Proof.Machine

/-! Encoding. -/

/-- Words written out from the encoding tables (30_encoding.md R95 to R102) decode to what they stand for. -/
def Obligations.SpecWordsDecodeAsWritten : Prop :=
  decodeCmd 0x00000000#32 = .instr .nop ∧
  decodeCmd 0x01FF8000#32 = .instr (.cvt888 255#8 128#8 0#8) ∧
  decodeCmd 0x02000000#32 = .instr .cvtf ∧
  decodeCmd 0x03010203#32 = .instr (.pack565 1#5 2#6 3#5) ∧
  decodeCmd 0x10000000#32 = .instr .frameU8 ∧
  decodeCmd 0x10000001#32 = .instr .frameF ∧
  decodeCmd 0x10000002#32 = .instr .frameRaw ∧
  decodeCmd 0x10000003#32 = .instr .frameT3 ∧
  decodeCmd 0x1000000F#32 = .instr .frameT15 ∧
  decodeCmd 0x03200000#32 = .illegal (.reservedBits 3#8) ∧
  decodeCmd 0x10000010#32 = .illegal (.reservedBits 16#8) ∧
  decodeCmd 0x04000000#32 = .illegal (.unassignedOpcode 4#8) ∧
  decodeWrite 14#4 0xFFFF8100#32 = some (.instr (.keydec 0x8100#16))

/-- Decoding the word of any instruction, at the register it is written to, gives the instruction back, with every operand
at every value (30_encoding.md R95 to R101). -/
def Obligations.DecodeInvertsEncode : Prop :=
  ∀ i : Instr, decodeWrite (encode i).1 (encode i).2 = some (.instr i)

/-- A command word that decodes to an instruction is the word that instruction encodes to, and it goes to CMD: no bit of a
legal command word is ignored (30_encoding.md R95 to R99, R102). -/
def Obligations.EncodeInvertsDecode : Prop :=
  ∀ (w : Word) (i : Instr), decodeCmd w = .instr i → encode i = (0#4, w)

/-- The legal command words are exactly the words that match a row of the opcode table under its mask (30_encoding.md
section 3). -/
def Obligations.LegalWordsMatchTheTable : Prop :=
  ∀ w : Word, (∃ i, decodeCmd w = .instr i) ↔
    (w = 0x00000000#32 ∨ w &&& 0xFF000000#32 = 0x01000000#32 ∨ w = 0x02000000#32 ∨
      w &&& 0xFFE0C0E0#32 = 0x03000000#32 ∨ w &&& 0xFFFFFFF0#32 = 0x10000000#32)

/-- Each script mnemonic is exactly one access, with the word R106 shows, whenever its operands are in range; out of range
it is refused (30_encoding.md R106). -/
def Obligations.MnemonicsExpandToTheirWords : Prop :=
  ∀ fmt : FloatFmt,
    expandLine fmt .nop = some [.access (.regWr 0#4 0x00000000#32)] ∧
    (∀ r g b, expandLine fmt (.cvt888 r g b) =
      if r < 256 ∧ g < 256 ∧ b < 256 then
        some [.access (.regWr 0#4 (BitVec.ofNat 32 (0x01000000 + r * 65536 + g * 256 + b)))]
      else none) ∧
    expandLine fmt .cvtf = some [.access (.regWr 0#4 0x02000000#32)] ∧
    (∀ r5 g6 b5, expandLine fmt (.pack565 r5 g6 b5) =
      if r5 < 32 ∧ g6 < 64 ∧ b5 < 32 then
        some [.access (.regWr 0#4 (BitVec.ofNat 32 (0x03000000 + r5 * 65536 + g6 * 256 + b5)))]
      else none) ∧
    expandLine fmt .frameU8 = some [.access (.regWr 0#4 0x10000000#32)] ∧
    expandLine fmt .frameF = some [.access (.regWr 0#4 0x10000001#32)] ∧
    expandLine fmt .frameRaw = some [.access (.regWr 0#4 0x10000002#32)] ∧
    (∀ t, expandLine fmt (.frameT t) =
      if t < 16 then some [.access (.regWr 0#4 (BitVec.ofNat 32 (0x10000000 + t)))] else none) ∧
    (∀ rep, expandLine fmt (.keydec rep) =
      if rep < 65536 then some [.access (.regWr 14#4 (BitVec.ofNat 32 rep))] else none)

/-- The pseudo-instructions (30_encoding.md section 6): shape, rawlen, fin and sfill are the writes they expand to, and wait is
the loop: each time it comes to its turn it reads STATUS, and the host goes on to what follows only when the word it read has
BUSY = 0. The number `fin` writes is the value of the format where it is one, and else the nearest one, ties to even, or an
infinity past the largest; that, and which NaN is written, is the model's choice (log 22). The encodings are IEEE 754's (log 3).
That the loop is one operation of the machine is the model's choice (log 21); the pending list, the turn and the record of reads
are its own (log 7, 8, 9). -/
def Obligations.PseudoInstructionsRunAsTheyExpand : Prop :=
  (∀ fmt : FloatFmt,
    expandLine fmt .shape = some [.access (.regWr 3#4 3#32), .access (.regWr 4#4 320#32), .access (.regWr 5#4 240#32),
      .access (.regWr 6#4 3#32)] ∧
    expandLine fmt .rawlen = some [.access (.regWr 7#4 153600#32)] ∧
    expandLine fmt .wait = some [.wait] ∧
    ∀ a n b, a + n ≤ 4294967296 → b < 256 → expandLine fmt (.sfill a n b) =
      some ((List.range n).map (fun i => .access (.srcWr (BitVec.ofNat 32 (a + i)) (BitVec.ofNat 8 b))))) ∧
  (∀ (v : FloatLit) (x : Channel), (ScriptLine.fin x v).operandsOk = true →
    expandLine .binary32 (.fin x v) =
      some [.access (.regWr (match x with | .red => 8#4 | .green => 10#4 | .blue => 12#4)
        ((encFloat .binary32 (floatOf .binary32 v)).extractLsb' 0 32))] ∧
    expandLine .binary64 (.fin x v) =
      some [.access (.regWr (match x with | .red => 8#4 | .green => 10#4 | .blue => 12#4)
          ((encFloat .binary64 (floatOf .binary64 v)).extractLsb' 0 32)),
        .access (.regWr (match x with | .red => 9#4 | .green => 11#4 | .blue => 13#4)
          ((encFloat .binary64 (floatOf .binary64 v)).extractLsb' 32 32))]) ∧
  (∀ fmt : FloatFmt,
    floatOf fmt .nan = .nan ∧ (∀ neg, floatOf fmt (.inf neg) = .inf neg) ∧
    (∀ (neg : Bool) (n d q e : Nat), d ≠ 0 → q < 2 ^ floatPrecision fmt → q * 2 ^ e < overflowQuanta fmt →
      n * oneQuanta fmt = q * 2 ^ e * d → floatOf fmt (.num neg n d) = .fin { neg := neg, quanta := q * 2 ^ e }) ∧
    ∀ (neg : Bool) (n d : Nat), d ≠ 0 → ∃ r, RoundsTo (floatPrecision fmt) (n * oneQuanta fmt) d r ∧
      floatOf fmt (.num neg n d) =
        if overflowQuanta fmt ≤ r then .inf neg else .fin { neg := neg, quanta := r }) ∧
  ∀ (s : State) (rest : List HostOp), s.pending = .wait :: rest → nextMover s = some .host →
    step s = .next { s with
      pending := if s.busy then .wait :: rest else rest
      reads := s.reads ++ [.reg 1#4 (statusWord s)]
      turn := Config.freeTurn s.turns
      turns := s.turns + 1 }

/-! The step. -/

/-- A step performs the host's oldest access, whatever it is, when the host moves (the sequencer is idle, or the turn is the
host's): the step is `performAccess` of it, in the state with the operation taken off the list and the next turn drawn
(00_scope.md R14). When that access is a register write that decodes to an instruction, the step is `exec` of the instruction in
that state. The list and the turn are the model's own (log 7, 8). -/
def Obligations.StepRunsDecodedInstruction : Prop :=
  (∀ (s : State) (a : HostAccess) (rest : List HostOp),
    s.pending = .access a :: rest → (s.busy = false ∨ s.turn = .host) →
    step s = performAccess a { s with pending := rest, turn := Config.freeTurn s.turns, turns := s.turns + 1 }) ∧
  ∀ (s : State) (i : BitVec 4) (v : Word) (rest : List HostOp) (ins : Instr),
    s.pending = .access (.regWr i v) :: rest → decodeWrite i v = some (.instr ins) → (s.busy = false ∨ s.turn = .host) →
    step s = exec ins { s with pending := rest, turn := Config.freeTurn s.turns, turns := s.turns + 1 }

/-- A CMD write, accepted with BUSY = 0, whose word decodes to ILLEGAL raises ILLEGAL_CMD and has no other effect
(60_exceptions.md R224): ERR is 4, DONE is 1, OVR is 0. -/
def Obligations.IllegalWordRaisesIllegalCmd : Prop :=
  ∀ (s : State) (w : Word) (why : IllegalCmd), s.busy = false → decodeCmd w = .illegal why →
    performAccess (.regWr 0#4 w) s = .next { s with ovr := false, err := 4#4, done := true }

/-- The sequencer's step, enabled exactly when BUSY = 1 (42_frame_packer.md section 2): it writes the frame's byte at POS,
advances POS, and at the end of the frame clears BUSY and sets DONE and FVALID; it changes nothing else. In the machine it is
taken when no host operation is pending or the turn is the sequencer's, and the next turn is drawn: the list and the turn are the
model's own (log 7, 8). -/
def Obligations.SequencerStepWritesOneByte : Prop :=
  ∀ s : State,
    (s.busy = false → nextMover s ≠ some .sequencer) ∧
    (s.busy = true → (s.pending = [] ∨ s.turn = .sequencer) →
      step s = .next
        (let u : State := { s with
            fout := Memory.write s.fout s.pos.toNat (frameByte Config.params s s.pos.toNat)
            pos := s.pos + 1#18
            turn := Config.freeTurn s.turns
            turns := s.turns + 1 }
         if s.pos.toNat + 1 = 153856 then { u with busy := false, done := true, fvalid := true } else u))

/-- "No behaviour of the core is `stuck`. Every state has a successor for every host access"
(93_implementation_defined.md section 1): no step and no access faults or is refused. With nothing pending and no job running
no agent is enabled and a step leaves the state as it is: that is the model's choice (log 10), where
70_reset_and_hazards.md section 5 says the run is over. Nor does a run wait for ever: the turns are weakly fair to the sequencer
(70_reset_and_hazards.md section 4), so whatever the host has pending every running job ends, and every wait loop ends, having read
BUSY = 0; and no weakly fair order of turns is lost, each one being the schedule of some gaps. The list and the turns are the
model's own (log 7, 8), and the loop is one operation (log 21). -/
def Obligations.EveryStateHasASuccessor : Prop :=
  (∀ s : State, (∃ t, step s = .next t) ∧ (∀ a : HostAccess, ∃ t, performAccess a s = .next t) ∧
    (s.pending = [] → s.busy = false → nextMover s = none ∧ step s = .next s)) ∧
  (∀ n, ∃ m, n ≤ m ∧ Config.freeTurn m = .sequencer) ∧
  (∀ f : Nat → Agent, (∀ n, ∃ m, n ≤ m ∧ f m = .sequencer) → ∃ gaps : Nat → Nat, ∀ n, turnOf gaps n = f n) ∧
  (∀ s : State, PosInv s → s.busy = true →
    ∃ (n : Nat) (t : State), Host.Core.run Sys2Proof.core n s = .next t ∧ t.busy = false) ∧
  ∀ (s : State) (rest : List HostOp), PosInv s → s.pending = .wait :: rest →
    ∃ (n : Nat) (t : State), Host.Core.run Sys2Proof.core n s = .next t ∧ t.busy = false ∧ t.pending = rest

/-! The commands. -/

/-- NOP (40_command_interface.md R126): the only NOP word is 0x00000000, an opcode 0x00 word with any other bit is illegal,
and NOP sets DONE and clears OVR and ERR, leaving everything else; STATUS is then 0x00000002, or 0x00000006 with a valid
frame. -/
def Obligations.NopClearsAndFinishes : Prop :=
  encode .nop = (0#4, 0x00000000#32) ∧
  (∀ w : Word, opcode w = 0#8 → w ≠ 0#32 → ∃ why, decodeCmd w = .illegal why) ∧
  ∀ s : State, s.busy = false →
    exec .nop s = .next { s with ovr := false, err := 0#4, done := true } ∧
    statusWord { s with ovr := false, err := 0#4, done := true } = if s.fvalid then 6#32 else 2#32

/-- CVT888 (41_quantizer.md R147): every word with opcode 0x01 is a CVT888 of its three bytes, and the command writes
RESULT with the truncated fields red / 8, green / 4, blue / 8 packed 5, 6, 5. -/
def Obligations.Cvt888WritesTruncatedPixel : Prop :=
  (∀ w : Word, opcode w = 1#8 →
    decodeCmd w = .instr (.cvt888 (w.extractLsb' 16 8) (w.extractLsb' 8 8) (w.extractLsb' 0 8))) ∧
  ∀ (r g b : Byte) (s : State), s.busy = false →
    exec (.cvt888 r g b) s = .next { s with
      ovr := false
      err := 0#4
      done := true
      result := BitVec.ofNat 32 (r.toNat / 8 * 2048 + g.toNat / 4 * 32 + b.toNat / 8) }

/-- CVTF (41_quantizer.md section 2): RESULT is the float pixel of the FIN registers: each channel that is no NaN has its
quantized value in its field, with M = 31 for red and blue and 63 for green, and bits 31:16 are 0. NaN channels take the free
values of the command's own drawing number, which is the model's field (log 4). -/
def Obligations.CvtfConvertsFinRegisters : Prop :=
  ∀ s : State, s.busy = false →
    exec .cvtf s = .next { s with
      ovr := false
      err := 0#4
      done := true
      draws := s.draws + 1
      result := (qfp Config.floatFmt (s.draws + 1) 0 (s.finRed Config.floatFmt) (s.finGreen Config.floatFmt)
        (s.finBlue Config.floatFmt)).setWidth 32 } ∧
    FloatPixelWord Config.floatFmt (s.draws + 1) 0 (s.finRed Config.floatFmt) (s.finGreen Config.floatFmt)
      (s.finBlue Config.floatFmt) (qfp Config.floatFmt (s.draws + 1) 0 (s.finRed Config.floatFmt)
        (s.finGreen Config.floatFmt) (s.finBlue Config.floatFmt))

/-- PACK565 (41_quantizer.md R149): a word with opcode 0x03 is legal exactly when the reserved mask 0x00E0C0E0 is zero, and
the command writes RESULT with the three fields packed. -/
def Obligations.Pack565WritesPackedFields : Prop :=
  (∀ w : Word, opcode w = 3#8 →
    decodeCmd w = if w &&& 0x00E0C0E0#32 = 0#32 then
      .instr (.pack565 (w.extractLsb' 16 5) (w.extractLsb' 8 6) (w.extractLsb' 0 5))
    else .illegal (.reservedBits 3#8)) ∧
  ∀ (r5 : BitVec 5) (g6 : BitVec 6) (b5 : BitVec 5) (s : State), s.busy = false →
    exec (.pack565 r5 g6 b5) s = .next { s with
      ovr := false
      err := 0#4
      done := true
      result := BitVec.ofNat 32 (r5.toNat * 2048 + g6.toNat * 32 + b5.toNat) }

/-- FRAME.U8, FRAME.F and FRAME.RAW with a valid descriptor start their job (42_frame_packer.md section 3): BUSY is 1, DONE
and FVALID are 0, POS is 0, JOB_ETYPE is the element type, no byte of FOUT is written. The drawing number is the model's
(log 4). -/
def Obligations.ValidFrameCommandStartsJob : Prop :=
  ∀ s : State, s.busy = false →
    (s.srcRank = 3#32 → s.srcDim0 = 320#32 → s.srcDim1 = 240#32 → s.srcDim2 = 3#32 →
      exec .frameU8 s = .next { s with
        ovr := false, err := 0#4, done := false, fvalid := false, busy := true
        pos := 0#18, jobEtype := .u8, draws := s.draws + 1 } ∧
      exec .frameF s = .next { s with
        ovr := false, err := 0#4, done := false, fvalid := false, busy := true
        pos := 0#18, jobEtype := .float, draws := s.draws + 1 }) ∧
    (s.srcLen = 153600#32 →
      exec .frameRaw s = .next { s with
        ovr := false, err := 0#4, done := false, fvalid := false, busy := true
        pos := 0#18, jobEtype := .raw, draws := s.draws + 1 })

/-- A FRAME command with ETYPE U8 or FLOAT raises SHAPE when the rank is not 3 or the dimensions are not 320, 240, 3
(60_exceptions.md R221); nothing but STATUS changes. -/
def Obligations.WrongShapeRaisesShape : Prop :=
  ∀ s : State, s.busy = false →
    (s.srcRank ≠ 3#32 ∨ s.srcDim0 ≠ 320#32 ∨ s.srcDim1 ≠ 240#32 ∨ s.srcDim2 ≠ 3#32) →
    exec .frameU8 s = .next { s with ovr := false, err := 1#4, done := true } ∧
    exec .frameF s = .next { s with ovr := false, err := 1#4, done := true }

/-- A FRAME command with ETYPE RAW raises LENGTH when SRC_LEN is not 153,600 (60_exceptions.md R222); nothing but STATUS
changes. -/
def Obligations.WrongLengthRaisesLength : Prop :=
  ∀ s : State, s.busy = false → s.srcLen ≠ 153600#32 →
    exec .frameRaw s = .next { s with ovr := false, err := 2#4, done := true }

/-- FRAME with ETYPE 3..15 raises UNSUPPORTED_FORMAT, whatever the descriptor holds (60_exceptions.md R223); the instruction's
effect is to record the error. -/
def Obligations.UnsupportedFormatsRaiseUnsupported : Prop :=
  ∀ i ∈ [Instr.frameT3, .frameT4, .frameT5, .frameT6, .frameT7, .frameT8, .frameT9, .frameT10, .frameT11, .frameT12,
      .frameT13, .frameT14, .frameT15],
    ∀ s : State, s.busy = false →
      exec i s = .next { s with ovr := false, err := 3#4, done := true }

/-- The FRAME acceptance for every ETYPE, in the order of its checks (42_frame_packer.md R186). `d` is the model's own count of
draws, which the rule does not have (log 4). -/
def Obligations.FrameAcceptanceChecksInOrder : Prop :=
  ∀ (t : BitVec 4) (s : State), s.busy = false → ∃ d : Nat,
    exec (frameInstr t) s = .next
      (if 2 < t.toNat then { s with ovr := false, err := 3#4, done := true }
       else if t.toNat ≠ 2 ∧ ¬(s.srcRank = 3#32 ∧ s.srcDim0 = 320#32 ∧ s.srcDim1 = 240#32 ∧ s.srcDim2 = 3#32) then
         { s with ovr := false, err := 1#4, done := true }
       else if t.toNat = 2 ∧ s.srcLen ≠ 153600#32 then { s with ovr := false, err := 2#4, done := true }
       else { s with
         ovr := false, err := 0#4, done := false, fvalid := false, busy := true, pos := 0#18
         jobEtype := if t.toNat = 0 then .u8 else if t.toNat = 1 then .float else .raw
         draws := d })

/-- KEYDEC (43_key_decoder.md R202): any write to KEY_IN, at every time, stores its low half, KEY_OUT then shows that half's
high byte, and nothing else changes. -/
def Obligations.KeydecStoresReport : Prop :=
  ∀ (v : Word) (s : State),
    decodeWrite 14#4 v = some (.instr (.keydec (v.extractLsb' 0 16))) ∧
    exec (.keydec (v.extractLsb' 0 16)) s = .next { s with keyIn := v &&& 0x0000FFFF#32 } ∧
    ({ s with keyIn := v &&& 0x0000FFFF#32 } : State).readReg .keyIn = v &&& 0x0000FFFF#32 ∧
    ({ s with keyIn := v &&& 0x0000FFFF#32 } : State).readReg .keyOut = v &&& 0x0000FF00#32

/-- While BUSY = 1 every command is turned away and only sets OVR (40_command_interface.md section 1); this says where a
command does not run. -/
def Obligations.BusyCoreTurnsCommandsAway : Prop :=
  ∀ (w : Word) (s : State), s.busy = true →
    performAccess (.regWr 0#4 w) s = .next { s with ovr := true } ∧
    ∀ i : Instr, decodeCmd w = .instr i → exec i s = .next { s with ovr := true }

/-! Frames of the commands. -/

/-- CVT888, CVTF, PACK565: only RESULT and the flags OVR, ERR, DONE change; no byte of SRC or FOUT, no descriptor or FIN
register, not KEY_IN, BUSY, FVALID, POS or JOB_ETYPE (41_quantizer.md section 2). -/
def Obligations.QuantizerFrame : Prop :=
  ∀ (i : Instr) (s t : State), (i = .cvtf ∨ (∃ r g b, i = .cvt888 r g b) ∨ ∃ r5 g6 b5, i = .pack565 r5 g6 b5) →
    exec i s = .next t →
    t.busy = s.busy ∧ t.fvalid = s.fvalid ∧ t.keyIn = s.keyIn ∧ t.pos = s.pos ∧ t.jobEtype = s.jobEtype ∧
    SameOperands s t ∧ SameBytes s t ∧ SameHost s t

/-- NOP and the unsupported FRAME commands: only the flags OVR, ERR, DONE change (40_command_interface.md section 2;
60_exceptions.md section 3). -/
def Obligations.StatusOnlyFrame : Prop :=
  ∀ (i : Instr) (s t : State),
    i ∈ [Instr.nop, .frameT3, .frameT4, .frameT5, .frameT6, .frameT7, .frameT8, .frameT9, .frameT10, .frameT11,
      .frameT12, .frameT13, .frameT14, .frameT15] →
    exec i s = .next t →
    t.busy = s.busy ∧ t.fvalid = s.fvalid ∧ t.result = s.result ∧ t.keyIn = s.keyIn ∧ t.pos = s.pos ∧
    t.jobEtype = s.jobEtype ∧ SameOperands s t ∧ SameBytes s t ∧ SameHost s t

/-- FRAME.U8, FRAME.F, FRAME.RAW: only the flags, POS and JOB_ETYPE change in the accept step; RESULT, KEY_IN, the operands
and every byte of SRC and FOUT stay (42_frame_packer.md section 3). When the command is not accepted as a job, POS, JOB_ETYPE
and FVALID stay too (60_exceptions.md section 3). -/
def Obligations.FrameCommandFrame : Prop :=
  ∀ (i : Instr) (s t : State), i ∈ [Instr.frameU8, .frameF, .frameRaw] → exec i s = .next t →
    t.result = s.result ∧ t.keyIn = s.keyIn ∧ SameOperands s t ∧ SameBytes s t ∧ SameHost s t ∧
    (t.busy = s.busy → t.pos = s.pos ∧ t.jobEtype = s.jobEtype ∧ t.fvalid = s.fvalid)

/-- KEYDEC changes KEY_IN alone (43_key_decoder.md R206): STATUS, RESULT, the descriptors, FIN, SRC, FOUT, POS and JOB_ETYPE
stay, whatever the state. -/
def Obligations.KeydecFrame : Prop :=
  ∀ (rep : Half) (s t : State), exec (.keydec rep) s = .next t →
    statusWord t = statusWord s ∧ t.result = s.result ∧ t.pos = s.pos ∧ t.jobEtype = s.jobEtype ∧
    SameOperands s t ∧ SameBytes s t ∧ SameHost s t

/-! Host accesses. -/

/-- Register writes (40_command_interface.md R123, R124; 60_exceptions.md R224): with BUSY = 0 indices 3..13 store all 32 bits and change no other
register and no byte; with BUSY = 1 they and index 0 change nothing except that they set OVR (the busy lock); index 14 stores the low half at any time; indices 1, 2, 15 have no
effect at all; index 0 with BUSY = 0 is a command: the instruction its word decodes to, or, where the word is illegal,
ILLEGAL_CMD is raised and nothing else happens (ERR is 4, DONE is 1, OVR is 0). -/
def Obligations.RegisterWritesStore : Prop :=
  ∀ (i : BitVec 4) (v : Word) (s : State),
    (s.busy = false → 3 ≤ i.toNat → i.toNat ≤ 13 →
      ∃ t, performAccess (.regWr i v) s = .next t ∧ t.readReg (regOfIndex i) = v ∧
        (∀ j : BitVec 4, j ≠ i → t.readReg (regOfIndex j) = s.readReg (regOfIndex j)) ∧
        t.pos = s.pos ∧ t.jobEtype = s.jobEtype ∧ SameBytes s t ∧ SameHost s t) ∧
    (s.busy = true → i.toNat = 0 ∨ (3 ≤ i.toNat ∧ i.toNat ≤ 13) →
      performAccess (.regWr i v) s = .next { s with ovr := true }) ∧
    (i.toNat = 14 → performAccess (.regWr i v) s = .next { s with keyIn := v &&& 0x0000FFFF#32 }) ∧
    (i.toNat = 1 ∨ i.toNat = 2 ∨ i.toNat = 15 → performAccess (.regWr i v) s = .next s) ∧
    (s.busy = false → i.toNat = 0 → performAccess (.regWr i v) s =
      match decodeCmd v with
      | .instr ins => exec ins s
      | .illegal _ => .next { s with ovr := false, err := 4#4, done := true })

/-- What a register read returns, at every time, changing no state of the core (40_command_interface.md R125); the host's
record of it is the model's field (log 9). -/
def Obligations.RegisterReadsReturn : Prop :=
  ∀ (i : BitVec 4) (s : State),
    performAccess (.regRd i) s = .next { s with reads := s.reads ++ [.reg i
      (match i.toNat with
       | 0 => 0#32
       | 1 => BitVec.ofNat 32 (s.err.toNat * 16 + (if s.ovr then 8 else 0) + (if s.fvalid then 4 else 0) +
           (if s.done then 2 else 0) + (if s.busy then 1 else 0))
       | 2 => s.result
       | 3 => s.srcRank
       | 4 => s.srcDim0
       | 5 => s.srcDim1
       | 6 => s.srcDim2
       | 7 => s.srcLen
       | 8 => s.finRLo
       | 9 => s.finRHi
       | 10 => s.finGLo
       | 11 => s.finGHi
       | 12 => s.finBLo
       | 13 => s.finBHi
       | 14 => s.keyIn &&& 0x0000FFFF#32
       | _ => s.keyIn &&& 0x0000FF00#32)] }

/-- STATUS bits 31:8 are reserved and always read as zero (10_state.md R29), and the flags stand at their bits. -/
def Obligations.StatusLayout : Prop :=
  ∀ s : State, (statusWord s).extractLsb' 8 24 = 0#24 ∧ (statusWord s).extractLsb' 4 4 = s.err ∧
    (statusWord s).getLsbD 3 = s.ovr ∧ (statusWord s).getLsbD 2 = s.fvalid ∧ (statusWord s).getLsbD 1 = s.done ∧
    (statusWord s).getLsbD 0 = s.busy

/-- A host write to SRC while BUSY = 1 is ignored and sets OVR; with BUSY = 0, in range, it stores the byte; a read returns
the stored byte (20_memory.md R66). Every other byte and register is unchanged. What a read returned stands in the model's
own record (log 9). -/
def Obligations.SrcWriteStoresByte : Prop :=
  ∀ (a : BitVec 32) (b : Byte) (s : State),
    (s.busy = true → performAccess (.srcWr a b) s = .next { s with ovr := true }) ∧
    (s.busy = false → a.toNat < Config.srcBytes →
      ∃ t, performAccess (.srcWr a b) s = .next t ∧ t.srcByte a.toNat = b ∧
        (∀ x, x ≠ a.toNat → t.srcByte x = s.srcByte x) ∧ t = { s with src := t.src }) ∧
    (a.toNat < Config.srcBytes →
      performAccess (.srcRd a) s = .next { s with reads := s.reads ++ [.src a (s.srcByte a.toNat)] })

/-- Outside SRC_BYTES a host write with BUSY = 0 is ignored and does not set OVR; a host read returns 0x00 at any time
(20_memory.md R69). What a read returned stands in the model's own record (log 9). -/
def Obligations.SrcOutOfRange : Prop :=
  ∀ (a : BitVec 32) (b : Byte) (s : State),
    (s.busy = false → performAccess (.srcWr a b) s = .next
      (if Config.srcBytes ≤ a.toNat then s else { s with src := Memory.write s.src a.toNat b })) ∧
    performAccess (.srcRd a) s = .next { s with reads := s.reads ++ [.src a
      (if Config.srcBytes ≤ a.toNat then 0#8 else s.srcByte a.toNat)] }

/-- A host read of FOUT returns 0x00 while BUSY = 1, 0x00 at or above 153,856, and otherwise the byte stored (20_memory.md
section 1); it changes no state of the core. What a read returned stands in the field reads, the model's own record (log 9). -/
def Obligations.FoutReadReturns : Prop :=
  ∀ (a : BitVec 32) (s : State),
    performAccess (.foutRd a) s = .next { s with reads := s.reads ++ [.fout a
      (if s.busy = true ∨ 153856 ≤ a.toNat then 0#8 else s.foutByte a.toNat)] }

/-- Reset and power-on (70_reset_and_hazards.md R250): every register at its reset value; RESET is accepted at every time and
stops a running job, and no other access does. -/
def Obligations.ResetSetsEveryRegister : Prop :=
  (∀ t : State, (t = State.reset ∨ ∃ s, performAccess .reset s = .next t) →
    (∀ i : BitVec 4, t.readReg (regOfIndex i) = 0#32) ∧ t.pos = 0#18 ∧ t.jobEtype = .u8 ∧
    t.busy = false ∧ t.done = false ∧ t.fvalid = false ∧ t.ovr = false ∧ t.err = 0#4 ∧
    nextMover t ≠ some .sequencer) ∧
  ∀ s : State, (∃ t, performAccess .reset s = .next t) ∧
    ∀ (a : HostAccess) (t : State), a ≠ .reset → performAccess a s = .next t → s.busy = true → t.busy = true

/-- The core when it first takes a step is reset: every register of the window reads 0, POS is 0, JOB_ETYPE is U8, and no byte
of SRC or FOUT has been written; a RESET access leaves the memories so again, with new free contents
(70_reset_and_hazards.md section 1). The free contents and the host's fields are the model's (log 5, 17). -/
def Obligations.ResetStateIsClean : Prop :=
  (∀ i : BitVec 4, State.reset.readReg (regOfIndex i) = 0#32) ∧ State.reset.pos = 0#18 ∧
  State.reset.jobEtype = .u8 ∧ (∀ a, State.reset.srcByte a = Config.freeSrc 0 a) ∧
  (∀ a, State.reset.foutByte a = Config.freeFout 0 a) ∧
  ∀ s t : State, performAccess .reset s = .next t →
    (∀ a, t.srcByte a = Config.freeSrc (s.resets + 1) a) ∧ (∀ a, t.foutByte a = Config.freeFout (s.resets + 1) a) ∧
    SameHost s t

/-- The reset state has the invariant that every step keeps. -/
def Obligations.ResetStateHasInvariant : Prop := Inv State.reset

/-- No host access but RESET changes FOUT (20_memory.md section 1: the host has no write path to FOUT). -/
def Obligations.HostNeverWritesFout : Prop :=
  ∀ (a : HostAccess) (s t : State), a ≠ .reset → performAccess a s = .next t →
    ∀ x, t.foutByte x = s.foutByte x

/-- While BUSY = 1 a host access other than RESET changes at most KEY_IN, OVR and the host's own record
(40_command_interface.md section 3), so a running job's inputs are fixed (20_memory.md section 4). -/
def Obligations.BusyHostChangesLittle : Prop :=
  ∀ (a : HostAccess) (s t : State), s.busy = true → a ≠ .reset → performAccess a s = .next t →
    t = { s with keyIn := t.keyIn, ovr := t.ovr, reads := t.reads }

/-! Flags over the whole machine. -/

/-- BUSY changes only by a valid FRAME command the host issues, by the last sequencer step, or by a RESET the host performs
(10_state.md section 2). The access performed is read off the pending list and the turn, which are the model's own (log 7, 8);
the host moves where nextMover says so. -/
def Obligations.BusyChangesOnlyByJobs : Prop :=
  ∀ s t : State, step s = .next t →
    (s.busy = false → t.busy = true →
      nextMover s = some .host ∧ ∃ w rest, s.pending = .access (.regWr 0#4 w) :: rest ∧
        ((w = 0x10000000#32 ∨ w = 0x10000001#32) ∧
            s.srcRank = 3#32 ∧ s.srcDim0 = 320#32 ∧ s.srcDim1 = 240#32 ∧ s.srcDim2 = 3#32 ∨
          w = 0x10000002#32 ∧ s.srcLen = 153600#32)) ∧
    (s.busy = true → t.busy = false →
      (nextMover s = some .host ∧ ∃ rest, s.pending = .access .reset :: rest) ∨
        (nextMover s = some .sequencer ∧
          s.pos.toNat = 153855 ∧ t.pos.toNat = 153856 ∧ t.done = true ∧ t.fvalid = true))

/-- OVR is set exactly by a write that is ignored because BUSY = 1, and cleared only by an accepted command and by reset; its
reset value is 0 (10_state.md R27). -/
def Obligations.OvrIsSticky : Prop :=
  State.reset.ovr = false ∧
  (∀ (a : HostAccess) (s t : State), performAccess a s = .next t →
    (s.busy = true ∧
      ((∃ i v, a = .regWr i v ∧ (i.toNat = 0 ∨ (3 ≤ i.toNat ∧ i.toNat ≤ 13))) ∨ ∃ ad b, a = .srcWr ad b) ∧
      t.ovr = true) ∨
    ((a = .reset ∨ (s.busy = false ∧ ∃ w, a = .regWr 0#4 w)) ∧ t.ovr = false) ∨
    (¬(s.busy = true ∧
        ((∃ i v, a = .regWr i v ∧ (i.toNat = 0 ∨ (3 ≤ i.toNat ∧ i.toNat ≤ 13))) ∨ ∃ ad b, a = .srcWr ad b)) ∧
      ¬(a = .reset ∨ (s.busy = false ∧ ∃ w, a = .regWr 0#4 w)) ∧ t.ovr = s.ovr)) ∧
  ∀ (P : Params) (s : State), (seqStep P s).ovr = s.ovr

/-- A recorded error stays until the next accepted command, or a RESET the host performs (60_exceptions.md section 3). The
access performed is read off the pending list and the turn, which are the model's own (log 7, 8). -/
def Obligations.ErrorStaysUntilNextCommand : Prop :=
  ∀ s t : State, step s = .next t → t.err ≠ s.err →
    nextMover s = some .host ∧
      ((∃ rest, s.pending = .access .reset :: rest) ∨
        (s.busy = false ∧ ∃ w rest, s.pending = .access (.regWr 0#4 w) :: rest))

/-- RESULT changes only by an accepted, legal CVT888, CVTF or PACK565 command, or by a RESET the host performs (10_state.md
section 2): no illegal word changes it. The access performed is read off the pending list and the turn, which are the model's
own (log 7, 8). -/
def Obligations.ResultChangesOnlyByQuantizer : Prop :=
  ∀ s t : State, step s = .next t → t.result ≠ s.result →
    nextMover s = some .host ∧
      ((∃ rest, s.pending = .access .reset :: rest) ∨
        (s.busy = false ∧ ∃ w rest, s.pending = .access (.regWr 0#4 w) :: rest ∧
          (w &&& 0xFF000000#32 = 0x01000000#32 ∨ w = 0x02000000#32 ∨ w &&& 0xFFE0C0E0#32 = 0x03000000#32)))

/-- The invariant of the core (STATUS combinations, POS, RESULT and KEY_IN halves, memory form, the running job's descriptor
and the bytes it has written, FVALID's meaning) is kept by every step from every state that has it (10_state.md sections 2, 6;
42_frame_packer.md sections 1, 2). -/
def Obligations.StepKeepsInvariant : Prop :=
  ∀ s t : State, Inv s → step s = .next t → Inv t

/-! The quantizer. -/

/-- 8-bit channel quantization truncates: the fields of the packed word are the channels' top bits (41_quantizer.md R140). -/
def Obligations.ChannelsTruncate : Prop :=
  ∀ r g b : Byte,
    (q888 r g b).extractLsb' 11 5 = r.extractLsb' 3 5 ∧
    (q888 r g b).extractLsb' 5 6 = g.extractLsb' 2 6 ∧
    (q888 r g b).extractLsb' 0 5 = b.extractLsb' 3 5

/-- RGB565 packing (41_quantizer.md R145): the fields stand at bits 15:11, 10:5 and 4:0 and never overlap, so `|` equals
`+`. -/
def Obligations.PackPlacesFields : Prop :=
  ∀ (r5 : BitVec 5) (g6 : BitVec 6) (b5 : BitVec 5),
    (pack r5 g6 b5).extractLsb' 11 5 = r5 ∧ (pack r5 g6 b5).extractLsb' 5 6 = g6 ∧
    (pack r5 g6 b5).extractLsb' 0 5 = b5 ∧
    (pack r5 g6 b5).toNat = r5.toNat * 2 ^ 11 + g6.toNat * 2 ^ 5 + b5.toNat

/-- The masked form of Q888, that every RGB565 word is the word of some pixel, and that two pixels give one word exactly when
their kept bits agree (41_quantizer.md sections 1, 3). -/
def Obligations.Q888IsOntoAndKeepsTopBits : Prop :=
  (∀ r g b : Byte, q888 r g b =
    ((r &&& 0xF8#8).setWidth 16 <<< 8) ||| ((g &&& 0xFC#8).setWidth 16 <<< 3) ||| (b.setWidth 16 >>> 3)) ∧
  (∀ (r5 : BitVec 5) (g6 : BitVec 6) (b5 : BitVec 5),
    q888 (r5.setWidth 8 <<< 3) (g6.setWidth 8 <<< 2) (b5.setWidth 8 <<< 3) = pack r5 g6 b5) ∧
  ∀ r g b r' g' b' : Byte, q888 r g b = q888 r' g' b' ↔
    (r.extractLsb' 3 5 = r'.extractLsb' 3 5 ∧ g.extractLsb' 2 6 = g'.extractLsb' 2 6 ∧
      b.extractLsb' 3 5 = b'.extractLsb' 3 5)

/-- Float channel clamp (41_quantizer.md R141): below 0 gives +0.0, above 1 gives 1.0, anything else itself. -/
def Obligations.FloatClamp : Prop :=
  ∀ fmt : FloatFmt,
    clampF fmt (.inf true) = some { neg := false, quanta := 0 } ∧
    clampF fmt (.inf false) = some { neg := false, quanta := oneQuanta fmt } ∧
    ∀ n : Nat,
      clampF fmt (.fin { neg := true, quanta := n + 1 }) = some { neg := false, quanta := 0 } ∧
      clampF fmt (.fin { neg := true, quanta := 0 }) = some { neg := true, quanta := 0 } ∧
      (n ≤ oneQuanta fmt →
        clampF fmt (.fin { neg := false, quanta := n }) = some { neg := false, quanta := n }) ∧
      (oneQuanta fmt < n →
        clampF fmt (.fin { neg := false, quanta := n }) = some { neg := false, quanta := oneQuanta fmt })

/-- The scale product is rounded by roundTiesToEven (00_scope.md section 5; 41_quantizer.md section 1): the scaled value keeps
the sign, its magnitude has at most the format's precision, no number of that precision is nearer to the exact product, and
where another is as near the rounded one has the even significand. The precisions are IEEE 754's (log 3), and every `q * 2 ^ e`
with `q` of that precision counts as a value of the format, which holds of the products the quantizer forms (log 20). -/
def Obligations.RoundingIsNearestEven : Prop :=
  ∀ (fmt : FloatFmt) (m : Nat) (c : FiniteF),
    (scaleF fmt m c).neg = c.neg ∧
    (∃ q e, q < 2 ^ floatPrecision fmt ∧ (scaleF fmt m c).quanta = q * 2 ^ e) ∧
    ∀ q e : Nat, q < 2 ^ floatPrecision fmt →
      (((scaleF fmt m c).quanta : Int) - (c.quanta * m : Nat)).natAbs ≤
        (((q * 2 ^ e : Nat) : Int) - (c.quanta * m : Nat)).natAbs ∧
      ((((scaleF fmt m c).quanta : Int) - (c.quanta * m : Nat)).natAbs =
          (((q * 2 ^ e : Nat) : Int) - (c.quanta * m : Nat)).natAbs →
        q * 2 ^ e ≠ (scaleF fmt m c).quanta →
        ∃ q' e', 2 ^ (floatPrecision fmt - 1) ≤ q' ∧ q' < 2 ^ floatPrecision fmt ∧ q' % 2 = 0 ∧
          (scaleF fmt m c).quanta = q' * 2 ^ e')

/-- The quantized channel of a value that is no NaN is the floor of the rounded product of the clamped value, and lies in 0..M,
so no field is cut off by its width; a NaN has none (41_quantizer.md section 1). The value, the product and 1.0 are in quanta
(log 20). -/
def Obligations.QuantizedChannelWithinRange : Prop :=
  ∀ (fmt : FloatFmt) (m : Nat) (v : FVal), (m = 31 ∨ m = 63) →
    (v = .nan → quantF fmt m v = none) ∧
    (v ≠ .nan → ∃ (c : FiniteF) (q : Nat), clampF fmt v = some c ∧ quantF fmt m v = some q ∧
      q * oneQuanta fmt ≤ (scaleF fmt m c).quanta ∧ (scaleF fmt m c).quanta < (q + 1) * oneQuanta fmt ∧ q ≤ m)

/-- Special float inputs, per channel (41_quantizer.md section 3): every value at or above 1 gives M, every value below 0 and
both zeros and every subnormal give 0, and a NaN has no quantized value. -/
def Obligations.SpecialFloatChannels : Prop :=
  ∀ (fmt : FloatFmt) (m : Nat), (m = 31 ∨ m = 63) →
    quantF fmt m (.inf false) = some m ∧ quantF fmt m (.inf true) = some 0 ∧ quantF fmt m .nan = none ∧
    (∀ n, oneQuanta fmt ≤ n → quantF fmt m (.fin { neg := false, quanta := n }) = some m) ∧
    (∀ n, quantF fmt m (.fin { neg := true, quanta := n }) = some 0) ∧
    (∀ n, n < 2 ^ (floatPrecision fmt - 1) → quantF fmt m (.fin { neg := false, quanta := n }) = some 0)

/-- The float quantizer is monotone on non-negative values, since rounding is (41_quantizer.md section 1). -/
def Obligations.FloatQuantizerMonotone : Prop :=
  ∀ (fmt : FloatFmt) (m x y p q : Nat), (m = 31 ∨ m = 63) → x ≤ y →
    quantF fmt m (.fin { neg := false, quanta := x }) = some p →
    quantF fmt m (.fin { neg := false, quanta := y }) = some q → p ≤ q

/-- The floating-point values CVTF sees (10_state.md section 3): each channel decodes its own FIN pair, `{HI, LO}` in binary64,
LO alone in binary32, where HI is ignored; the reset state holds +0.0 in each channel. Decoding is IEEE 754's (log 3). -/
def Obligations.FinRegistersHoldFloats : Prop :=
  (∀ s : State,
    s.finRed .binary64 = decodeFloat .binary64 (BitVec.ofNat 64 (s.finRHi.toNat * 2 ^ 32 + s.finRLo.toNat)) ∧
    s.finGreen .binary64 = decodeFloat .binary64 (BitVec.ofNat 64 (s.finGHi.toNat * 2 ^ 32 + s.finGLo.toNat)) ∧
    s.finBlue .binary64 = decodeFloat .binary64 (BitVec.ofNat 64 (s.finBHi.toNat * 2 ^ 32 + s.finBLo.toNat)) ∧
    s.finRed .binary32 = decodeFloat .binary32 (BitVec.ofNat 64 s.finRLo.toNat) ∧
    s.finGreen .binary32 = decodeFloat .binary32 (BitVec.ofNat 64 s.finGLo.toNat) ∧
    s.finBlue .binary32 = decodeFloat .binary32 (BitVec.ofNat 64 s.finBLo.toNat)) ∧
  (∀ (fmt : FloatFmt) (s : State), s.finRed fmt = decodeFloat fmt (finBits fmt s.finRHi s.finRLo) ∧
    s.finGreen fmt = decodeFloat fmt (finBits fmt s.finGHi s.finGLo) ∧
    s.finBlue fmt = decodeFloat fmt (finBits fmt s.finBHi s.finBLo)) ∧
  ∀ fmt : FloatFmt,
    State.reset.finRed fmt = .fin { neg := false, quanta := 0 } ∧
    State.reset.finGreen fmt = .fin { neg := false, quanta := 0 } ∧
    State.reset.finBlue fmt = .fin { neg := false, quanta := 0 }

/-- What each kind of encoding decodes to, field by field, in both formats: infinities and NaNs, zeros and subnormals, normal
numbers, in quanta of the smallest subnormal, of which 1.0 has 2^149 and 2^1074; and the encoding of a value decodes back to the
value (30_encoding.md section 6). The encodings are IEEE 754's (log 3), and which NaN is written is a free value (log 22). -/
def Obligations.FloatEncodingsHaveIeeeValues : Prop :=
  oneQuanta .binary32 = 2 ^ 149 ∧ oneQuanta .binary64 = 2 ^ 1074 ∧
  (∀ (neg : Bool) (e f : Nat), e < 256 → f < 2 ^ 23 →
    decodeFloat .binary32 (BitVec.ofNat 64 ((if neg then 2 ^ 31 else 0) + e * 2 ^ 23 + f)) =
      if e = 255 then (if f = 0 then .inf neg else .nan)
      else if e = 0 then .fin { neg := neg, quanta := f }
      else .fin { neg := neg, quanta := (2 ^ 23 + f) * 2 ^ (e - 1) }) ∧
  (∀ (neg : Bool) (e f : Nat), e < 2048 → f < 2 ^ 52 →
    decodeFloat .binary64 (BitVec.ofNat 64 ((if neg then 2 ^ 63 else 0) + e * 2 ^ 52 + f)) =
      if e = 2047 then (if f = 0 then .inf neg else .nan)
      else if e = 0 then .fin { neg := neg, quanta := f }
      else .fin { neg := neg, quanta := (2 ^ 52 + f) * 2 ^ (e - 1) }) ∧
  ∀ fmt : FloatFmt,
    decodeFloat fmt (encFloat fmt .nan) = .nan ∧
    (∀ neg, decodeFloat fmt (encFloat fmt (.inf neg)) = .inf neg) ∧
    ∀ (neg : Bool) (q e : Nat), q < 2 ^ floatPrecision fmt → q * 2 ^ e < overflowQuanta fmt →
      decodeFloat fmt (encFloat fmt (.fin { neg := neg, quanta := q * 2 ^ e })) = .fin { neg := neg, quanta := q * 2 ^ e }

/-- A NaN channel (41_quantizer.md R144): CVTF still completes, raises no error, and the channel's field is the free value of
that command and channel. The free value is a constant of the model (log 4). -/
def Obligations.NanChannelIsFree : Prop :=
  ∀ s : State, s.busy = false → ∃ t, exec .cvtf s = .next t ∧ t.err = 0#4 ∧ t.done = true ∧
    (s.finRed Config.floatFmt = .nan → t.result.extractLsb' 11 5 = Config.nanRed (s.draws + 1) 0) ∧
    (s.finGreen Config.floatFmt = .nan → t.result.extractLsb' 5 6 = Config.nanGreen (s.draws + 1) 0) ∧
    (s.finBlue Config.floatFmt = .nan → t.result.extractLsb' 0 5 = Config.nanBlue (s.draws + 1) 0)

/-! The frame packer. -/

/-- The header, Table A and Table B of the frame (42_frame_packer.md R172, R173, R174), whatever the state. -/
def Obligations.HeaderAndTablesAreFixed : Prop :=
  ∀ (P : Params) (s : State),
    (List.range 16).map (frameByte P s) =
      [0x10#8, 0x0F#8, 0x00#8, 0x58#8, 0x02#8, 0x00#8, 0x00#8, 0x00#8, 0x00#8, 0x00#8, 0x00#8, 0x3F#8, 0x01#8, 0xEF#8,
        0x00#8, 0x0F#8] ∧
    (∀ p, 16 ≤ p → p ≤ 255 → (frameByte P s p).toNat = p) ∧
    ∀ p, 256 ≤ p → p ≤ 511 → (frameByte P s p).toNat = p - 256

/-- The scan order (42_frame_packer.md R177): its formulas, and that either order visits every source pixel exactly once. -/
def Obligations.ScanVisitsEveryPixelOnce : Prop :=
  (∀ k, scan .aOuter k = (k / 240, k % 240)) ∧ (∀ k, scan .bOuter k = (k % 320, k / 320)) ∧
  (∀ k c, elemIndex (scan .aOuter k).1 (scan .aOuter k).2 c = 3 * k + c) ∧
  ∀ o : ScanOrder,
    (∀ k, k < 76800 → (scan o k).1 < 320 ∧ (scan o k).2 < 240) ∧
    ∀ a b, a < 320 → b < 240 → ∃ k, (k < 76800 ∧ scan o k = (a, b)) ∧
      ∀ k', k' < 76800 → scan o k' = (a, b) → k' = k

/-- The payload (42_frame_packer.md R175, R176, R178): RAW is SRC itself; a U8 or FLOAT pixel is the two halves of one word, in
the order of PAYLOAD_ENDIAN; a U8 word is the quantized source pixel. -/
def Obligations.PayloadFollowsElementType : Prop :=
  (∀ (P : Params) (s : State),
    (s.jobEtype = .raw → ∀ j, frameByte P s (512 + j) = s.srcByte j) ∧
    (s.jobEtype = .u8 → ∀ k h, h < 2 →
      frameByte P s (512 + 2 * k + h) = wordHalf P.payloadEndian (pixU8 P s k) h) ∧
    (s.jobEtype = .float → ∀ k h, h < 2 →
      frameByte P s (512 + 2 * k + h) = wordHalf P.payloadEndian (pixF P s k) h) ∧
    ∀ k, pixU8 P s k =
      q888 (s.srcByte (((scan P.scanOrder k).1 * 240 + (scan P.scanOrder k).2) * 3))
        (s.srcByte (((scan P.scanOrder k).1 * 240 + (scan P.scanOrder k).2) * 3 + 1))
        (s.srcByte (((scan P.scanOrder k).1 * 240 + (scan P.scanOrder k).2) * 3 + 2))) ∧
  ∀ w : Half,
    wordHalf .le w 0 = w.extractLsb' 0 8 ∧ wordHalf .le w 1 = w.extractLsb' 8 8 ∧
    wordHalf .be w 0 = w.extractLsb' 8 8 ∧ wordHalf .be w 1 = w.extractLsb' 0 8

/-- The payload word of a FLOAT pixel (42_frame_packer.md section 1): the float pixel of the three elements of the scanned
source pixel. Each channel that is no NaN has its quantized value in its field, and a NaN channel of payload pixel `k` has the
free value of the job's own number and `k`, the same for both bytes. The number is the model's (log 4). -/
def Obligations.FloatPayloadWord : Prop :=
  (∀ (P : Params) (s : State) (k h : Nat), s.jobEtype = .float → h < 2 →
    frameByte P s (512 + 2 * k + h) = wordHalf P.payloadEndian (qfp P.floatFmt s.draws k
      (floatElem P s (((scan P.scanOrder k).1 * 240 + (scan P.scanOrder k).2) * 3))
      (floatElem P s (((scan P.scanOrder k).1 * 240 + (scan P.scanOrder k).2) * 3 + 1))
      (floatElem P s (((scan P.scanOrder k).1 * 240 + (scan P.scanOrder k).2) * 3 + 2))) h) ∧
  ∀ (fmt : FloatFmt) (d k : Nat) (vr vg vb : FVal), FloatPixelWord fmt d k vr vg vb (qfp fmt d k vr vg vb)

/-- A float element is the FW bytes of SRC from e * FW, taken in SRC_FLOAT_BYTE_ORDER (20_memory.md section 1): its encoding
is the sum of the bytes, each times the power of 256 of its place. -/
def Obligations.FloatElementByteOrder : Prop :=
  ∀ (P : Params) (s : State) (e : Nat),
    floatElem P s e = decodeFloat P.floatFmt (BitVec.ofNat 64
      ((List.range P.floatFmt.bytes).map (fun i =>
        (s.srcByte (e * P.floatFmt.bytes + i)).toNat *
          256 ^ (match P.srcFloatOrder with | .le => i | .be => P.floatFmt.bytes - 1 - i))).sum)

/-- The phase of the job is a function of BUSY and POS (10_state.md section 6), in every state whose POS is in its range
(`PosInv`, a part of the invariant every step keeps). -/
def Obligations.PhaseFollowsPos : Prop :=
  ∀ s : State, PosInv s →
    (s.phase = .idle ↔ s.busy = false) ∧
    (s.phase = .header ↔ s.busy = true ∧ s.pos.toNat ≤ 15) ∧
    (s.phase = .tableA ↔ s.busy = true ∧ 16 ≤ s.pos.toNat ∧ s.pos.toNat ≤ 255) ∧
    (s.phase = .tableB ↔ s.busy = true ∧ 256 ≤ s.pos.toNat ∧ s.pos.toNat ≤ 511) ∧
    (s.phase = .payload ↔ s.busy = true ∧ 512 ≤ s.pos.toNat ∧ s.pos.toNat ≤ 153855)

/-- A job takes exactly 153,856 sequencer steps and ends with the whole frame in FOUT (42_frame_packer.md sections 2, 4). A
silent host is an empty pending list, so that every step is the sequencer's: the list and the scheduler are the model's own
(log 7, 8). From any state with BUSY = 1 and POS = 0 and a silent host, every run of fewer steps is still busy, and after 153,856 steps BUSY is
0, DONE and FVALID are 1, and every byte of FOUT is the frame's byte. -/
def Obligations.JobWritesWholeFrame : Prop :=
  ∀ s : State, s.busy = true → s.pos = 0#18 → s.pending = [] →
    (∀ n, n < 153856 → ∃ t : State, Host.Core.run Sys2Proof.core n s = .next t ∧ t.busy = true ∧ t.pos.toNat = n) ∧
    ∃ t : State, Host.Core.run Sys2Proof.core 153856 s = .next t ∧
      t.busy = false ∧ t.done = true ∧ t.fvalid = true ∧ t.pos.toNat = 153856 ∧
      (∀ p, p < 153856 → t.foutByte p = frameByte Config.params s p) ∧
      t.result = s.result ∧ t.keyIn = s.keyIn ∧ t.ovr = s.ovr ∧ t.err = s.err ∧ SameOperands s t ∧
      ∀ a, t.srcByte a = s.srcByte a

/-! The keystate decoder. -/

/-- KEY_OUT (43_key_decoder.md R201; 10_state.md R38): each flag of KEYMAP stands at its bit, LIGHT (bit 16) and every other
bit are 0. -/
def Obligations.KeyOutShowsButtons : Prop :=
  ∀ s : State,
    s.readReg .keyOut = ((s.keyIn.extractLsb' 0 16) &&& 0xFF00#16).setWidth 32 ∧
    (s.readReg .keyOut).getLsbD 15 = (keymap (s.keyIn.extractLsb' 0 16)).up ∧
    (s.readReg .keyOut).getLsbD 14 = (keymap (s.keyIn.extractLsb' 0 16)).down ∧
    (s.readReg .keyOut).getLsbD 13 = (keymap (s.keyIn.extractLsb' 0 16)).left ∧
    (s.readReg .keyOut).getLsbD 12 = (keymap (s.keyIn.extractLsb' 0 16)).right ∧
    (s.readReg .keyOut).getLsbD 11 = (keymap (s.keyIn.extractLsb' 0 16)).ok ∧
    (s.readReg .keyOut).getLsbD 10 = (keymap (s.keyIn.extractLsb' 0 16)).window ∧
    (s.readReg .keyOut).getLsbD 9 = (keymap (s.keyIn.extractLsb' 0 16)).back ∧
    (s.readReg .keyOut).getLsbD 8 = (keymap (s.keyIn.extractLsb' 0 16)).menu ∧
    (s.readReg .keyOut).getLsbD 16 = (keymap (s.keyIn.extractLsb' 0 16)).light ∧
    (keymap (s.keyIn.extractLsb' 0 16)).light = false ∧
    ∀ n, n < 8 ∨ 16 ≤ n → (s.readReg .keyOut).getLsbD n = false
end

