-- ==== Sys2Proof/Laws/Float.lean ====
section
/-! SUPPORT. The float quantizer's functions: what each does on its simple inputs, so that later proofs cite these and do not
unfold them. -/

namespace Sys2Proof.Machine

theorem oneQuanta_pos (fmt : FloatFmt) : 0 < oneQuanta fmt := Nat.two_pow_pos _

/-- A natural of at most `prec` bits is not rounded. -/
theorem roundSig_of_lt {prec n : Nat} (h : n < 2 ^ prec) : roundSig prec n = n := by
  simp [roundSig, h]

/-- A rounded natural is one of its two neighbours among the multiples of the last kept bit. -/
theorem roundSig_of_ge {prec n : Nat} (h : 2 ^ prec ≤ n) :
    ∃ q, (q = n / 2 ^ (n.log2 + 1 - prec) ∨ q = n / 2 ^ (n.log2 + 1 - prec) + 1) ∧
      roundSig prec n = q * 2 ^ (n.log2 + 1 - prec) := by
  simp only [roundSig, Nat.not_lt.2 h, if_false]
  split
  · exact ⟨_, .inr rfl, rfl⟩
  · exact ⟨_, .inl rfl, rfl⟩

/-- Rounding a fraction whose denominator is 1 is rounding a natural: `floatOf` and the quantizer round alike. -/
theorem roundRat_one (prec n : Nat) : roundRat prec n 1 = roundSig prec n := by
  by_cases h : n < 2 ^ prec
  · rw [roundSig_of_lt h]
    rcases Nat.eq_zero_or_pos n with rfl | hn
    · simp [roundRat]
    · have hlog := (Nat.log2_lt (Nat.ne_of_gt hn)).2 h
      have hs : n.log2 + 1 - prec = 0 := by omega
      simp [roundRat, hs, Nat.mod_one]
  · simp [roundRat, roundSig, h]

theorem clampF_nan (fmt : FloatFmt) : clampF fmt .nan = none := rfl

/-- Every value but a NaN clamps to a value in [0, 1] (41_quantizer.md R141). -/
theorem clampF_bounds {fmt : FloatFmt} {v : FVal} {c : FiniteF} (h : clampF fmt v = some c) :
    c.quanta ≤ oneQuanta fmt ∧ (c.neg = true → c.quanta = 0) := by
  cases v with
  | nan => simp [clampF] at h
  | inf neg => cases neg <;> simp only [clampF, Option.some.injEq] at h <;> subst h <;> simp
  | fin x =>
    simp only [clampF] at h
    split at h
    · simp only [Option.some.injEq] at h; subst h; simp
    · split at h
      · simp only [Option.some.injEq] at h; subst h; simp
      · rename_i h1 h2
        simp only [Option.some.injEq] at h
        subst h
        refine ⟨Nat.le_of_not_lt h2, fun hn => ?_⟩
        simpa [hn] using h1

theorem clampF_isSome {fmt : FloatFmt} {v : FVal} (h : v ≠ .nan) : (clampF fmt v).isSome = true := by
  cases v with
  | nan => exact absurd rfl h
  | inf neg => cases neg <;> rfl
  | fin x => simp only [clampF]; split <;> (try split) <;> rfl

theorem quantF_nan (fmt : FloatFmt) (m : Nat) : quantF fmt m .nan = none := rfl

/-- A channel has no quantized value exactly when it is a NaN (41_quantizer.md R143, R144). -/
theorem quantF_eq_none {fmt : FloatFmt} {m : Nat} {v : FVal} : quantF fmt m v = none ↔ v = .nan := by
  constructor
  · intro h
    by_contra hv
    have := clampF_isSome (fmt := fmt) hv
    simp [quantF] at h
    simp [h] at this
  · rintro rfl; rfl

theorem redField_nan (fmt : FloatFmt) (d k : Nat) : redField fmt d k .nan = Config.nanRed d k := rfl
theorem greenField_nan (fmt : FloatFmt) (d k : Nat) : greenField fmt d k .nan = Config.nanGreen d k := rfl
theorem blueField_nan (fmt : FloatFmt) (d k : Nat) : blueField fmt d k .nan = Config.nanBlue d k := rfl

/-- The three fields of a packed word (41_quantizer.md R145). -/
theorem pack_red (r5 : BitVec 5) (g6 : BitVec 6) (b5 : BitVec 5) : (pack r5 g6 b5).extractLsb' 11 5 = r5 := by
  ext i hi
  interval_cases i <;> simp [pack]

theorem pack_green (r5 : BitVec 5) (g6 : BitVec 6) (b5 : BitVec 5) : (pack r5 g6 b5).extractLsb' 5 6 = g6 := by
  ext i hi
  interval_cases i <;> simp [pack]

theorem pack_blue (r5 : BitVec 5) (g6 : BitVec 6) (b5 : BitVec 5) : (pack r5 g6 b5).extractLsb' 0 5 = b5 := by
  ext i hi
  interval_cases i <;> simp [pack]

/-- The three fields of a float pixel's word are its channels' fields (41_quantizer.md R146). -/
theorem qfp_red (fmt : FloatFmt) (d k : Nat) (vr vg vb : FVal) :
    (qfp fmt d k vr vg vb).extractLsb' 11 5 = redField fmt d k vr := pack_red _ _ _

theorem qfp_green (fmt : FloatFmt) (d k : Nat) (vr vg vb : FVal) :
    (qfp fmt d k vr vg vb).extractLsb' 5 6 = greenField fmt d k vg := pack_green _ _ _

theorem qfp_blue (fmt : FloatFmt) (d k : Nat) (vr vg vb : FVal) :
    (qfp fmt d k vr vg vb).extractLsb' 0 5 = blueField fmt d k vb := pack_blue _ _ _

/-- The quantized value is the floor of the scaled clamped value (41_quantizer.md R143). -/
theorem quantF_of_clamp {fmt : FloatFmt} {v : FVal} {c : FiniteF} (m : Nat) (h : clampF fmt v = some c) :
    quantF fmt m v = some (floorF fmt (scaleF fmt m c)) := by
  simp [quantF, h]

/-- `floorF` is the floor in quanta of 1.0 (41_quantizer.md R143). -/
theorem floorF_bounds (fmt : FloatFmt) (p : FiniteF) :
    floorF fmt p * oneQuanta fmt ≤ p.quanta ∧ p.quanta < (floorF fmt p + 1) * oneQuanta fmt := by
  have h := oneQuanta_pos fmt
  exact ⟨Nat.div_mul_le_self _ _, Nat.lt_mul_of_div_lt (Nat.lt_succ_self _) h⟩

end Sys2Proof.Machine
end

