-- ==== Sys2Proof/Laws/State.lean ====
section
/-! SUPPORT. What each state update does to each field of State: one lemma per field per update, so that no later proof unfolds
a record update. -/

namespace Sys2Proof.Machine

variable (s : State)

/-! `State.beginCommand`. -/

@[simp] theorem State.beginCommand_busy : (s.beginCommand).busy = s.busy := rfl
@[simp] theorem State.beginCommand_done : (s.beginCommand).done = false := rfl
@[simp] theorem State.beginCommand_fvalid : (s.beginCommand).fvalid = s.fvalid := rfl
@[simp] theorem State.beginCommand_ovr : (s.beginCommand).ovr = false := rfl
@[simp] theorem State.beginCommand_err : (s.beginCommand).err = 0#4 := rfl
@[simp] theorem State.beginCommand_result : (s.beginCommand).result = s.result := rfl
@[simp] theorem State.beginCommand_srcRank : (s.beginCommand).srcRank = s.srcRank := rfl
@[simp] theorem State.beginCommand_srcDim0 : (s.beginCommand).srcDim0 = s.srcDim0 := rfl
@[simp] theorem State.beginCommand_srcDim1 : (s.beginCommand).srcDim1 = s.srcDim1 := rfl
@[simp] theorem State.beginCommand_srcDim2 : (s.beginCommand).srcDim2 = s.srcDim2 := rfl
@[simp] theorem State.beginCommand_srcLen : (s.beginCommand).srcLen = s.srcLen := rfl
@[simp] theorem State.beginCommand_finRLo : (s.beginCommand).finRLo = s.finRLo := rfl
@[simp] theorem State.beginCommand_finRHi : (s.beginCommand).finRHi = s.finRHi := rfl
@[simp] theorem State.beginCommand_finGLo : (s.beginCommand).finGLo = s.finGLo := rfl
@[simp] theorem State.beginCommand_finGHi : (s.beginCommand).finGHi = s.finGHi := rfl
@[simp] theorem State.beginCommand_finBLo : (s.beginCommand).finBLo = s.finBLo := rfl
@[simp] theorem State.beginCommand_finBHi : (s.beginCommand).finBHi = s.finBHi := rfl
@[simp] theorem State.beginCommand_keyIn : (s.beginCommand).keyIn = s.keyIn := rfl
@[simp] theorem State.beginCommand_pos : (s.beginCommand).pos = s.pos := rfl
@[simp] theorem State.beginCommand_jobEtype : (s.beginCommand).jobEtype = s.jobEtype := rfl
@[simp] theorem State.beginCommand_src : (s.beginCommand).src = s.src := rfl
@[simp] theorem State.beginCommand_fout : (s.beginCommand).fout = s.fout := rfl
@[simp] theorem State.beginCommand_resets : (s.beginCommand).resets = s.resets := rfl
@[simp] theorem State.beginCommand_draws : (s.beginCommand).draws = s.draws := rfl
@[simp] theorem State.beginCommand_turn : (s.beginCommand).turn = s.turn := rfl
@[simp] theorem State.beginCommand_turns : (s.beginCommand).turns = s.turns := rfl
@[simp] theorem State.beginCommand_pending : (s.beginCommand).pending = s.pending := rfl
@[simp] theorem State.beginCommand_reads : (s.beginCommand).reads = s.reads := rfl

/-! `State.finish`. -/

@[simp] theorem State.finish_busy : (s.finish).busy = s.busy := rfl
@[simp] theorem State.finish_done : (s.finish).done = true := rfl
@[simp] theorem State.finish_fvalid : (s.finish).fvalid = s.fvalid := rfl
@[simp] theorem State.finish_ovr : (s.finish).ovr = s.ovr := rfl
@[simp] theorem State.finish_err : (s.finish).err = s.err := rfl
@[simp] theorem State.finish_result : (s.finish).result = s.result := rfl
@[simp] theorem State.finish_srcRank : (s.finish).srcRank = s.srcRank := rfl
@[simp] theorem State.finish_srcDim0 : (s.finish).srcDim0 = s.srcDim0 := rfl
@[simp] theorem State.finish_srcDim1 : (s.finish).srcDim1 = s.srcDim1 := rfl
@[simp] theorem State.finish_srcDim2 : (s.finish).srcDim2 = s.srcDim2 := rfl
@[simp] theorem State.finish_srcLen : (s.finish).srcLen = s.srcLen := rfl
@[simp] theorem State.finish_finRLo : (s.finish).finRLo = s.finRLo := rfl
@[simp] theorem State.finish_finRHi : (s.finish).finRHi = s.finRHi := rfl
@[simp] theorem State.finish_finGLo : (s.finish).finGLo = s.finGLo := rfl
@[simp] theorem State.finish_finGHi : (s.finish).finGHi = s.finGHi := rfl
@[simp] theorem State.finish_finBLo : (s.finish).finBLo = s.finBLo := rfl
@[simp] theorem State.finish_finBHi : (s.finish).finBHi = s.finBHi := rfl
@[simp] theorem State.finish_keyIn : (s.finish).keyIn = s.keyIn := rfl
@[simp] theorem State.finish_pos : (s.finish).pos = s.pos := rfl
@[simp] theorem State.finish_jobEtype : (s.finish).jobEtype = s.jobEtype := rfl
@[simp] theorem State.finish_src : (s.finish).src = s.src := rfl
@[simp] theorem State.finish_fout : (s.finish).fout = s.fout := rfl
@[simp] theorem State.finish_resets : (s.finish).resets = s.resets := rfl
@[simp] theorem State.finish_draws : (s.finish).draws = s.draws := rfl
@[simp] theorem State.finish_turn : (s.finish).turn = s.turn := rfl
@[simp] theorem State.finish_turns : (s.finish).turns = s.turns := rfl
@[simp] theorem State.finish_pending : (s.finish).pending = s.pending := rfl
@[simp] theorem State.finish_reads : (s.finish).reads = s.reads := rfl

/-! `State.setOvr`. -/

@[simp] theorem State.setOvr_busy : (s.setOvr).busy = s.busy := rfl
@[simp] theorem State.setOvr_done : (s.setOvr).done = s.done := rfl
@[simp] theorem State.setOvr_fvalid : (s.setOvr).fvalid = s.fvalid := rfl
@[simp] theorem State.setOvr_ovr : (s.setOvr).ovr = true := rfl
@[simp] theorem State.setOvr_err : (s.setOvr).err = s.err := rfl
@[simp] theorem State.setOvr_result : (s.setOvr).result = s.result := rfl
@[simp] theorem State.setOvr_srcRank : (s.setOvr).srcRank = s.srcRank := rfl
@[simp] theorem State.setOvr_srcDim0 : (s.setOvr).srcDim0 = s.srcDim0 := rfl
@[simp] theorem State.setOvr_srcDim1 : (s.setOvr).srcDim1 = s.srcDim1 := rfl
@[simp] theorem State.setOvr_srcDim2 : (s.setOvr).srcDim2 = s.srcDim2 := rfl
@[simp] theorem State.setOvr_srcLen : (s.setOvr).srcLen = s.srcLen := rfl
@[simp] theorem State.setOvr_finRLo : (s.setOvr).finRLo = s.finRLo := rfl
@[simp] theorem State.setOvr_finRHi : (s.setOvr).finRHi = s.finRHi := rfl
@[simp] theorem State.setOvr_finGLo : (s.setOvr).finGLo = s.finGLo := rfl
@[simp] theorem State.setOvr_finGHi : (s.setOvr).finGHi = s.finGHi := rfl
@[simp] theorem State.setOvr_finBLo : (s.setOvr).finBLo = s.finBLo := rfl
@[simp] theorem State.setOvr_finBHi : (s.setOvr).finBHi = s.finBHi := rfl
@[simp] theorem State.setOvr_keyIn : (s.setOvr).keyIn = s.keyIn := rfl
@[simp] theorem State.setOvr_pos : (s.setOvr).pos = s.pos := rfl
@[simp] theorem State.setOvr_jobEtype : (s.setOvr).jobEtype = s.jobEtype := rfl
@[simp] theorem State.setOvr_src : (s.setOvr).src = s.src := rfl
@[simp] theorem State.setOvr_fout : (s.setOvr).fout = s.fout := rfl
@[simp] theorem State.setOvr_resets : (s.setOvr).resets = s.resets := rfl
@[simp] theorem State.setOvr_draws : (s.setOvr).draws = s.draws := rfl
@[simp] theorem State.setOvr_turn : (s.setOvr).turn = s.turn := rfl
@[simp] theorem State.setOvr_turns : (s.setOvr).turns = s.turns := rfl
@[simp] theorem State.setOvr_pending : (s.setOvr).pending = s.pending := rfl
@[simp] theorem State.setOvr_reads : (s.setOvr).reads = s.reads := rfl

/-! `State.markRunning`. -/

@[simp] theorem State.markRunning_busy : (s.markRunning).busy = true := rfl
@[simp] theorem State.markRunning_done : (s.markRunning).done = s.done := rfl
@[simp] theorem State.markRunning_fvalid : (s.markRunning).fvalid = false := rfl
@[simp] theorem State.markRunning_ovr : (s.markRunning).ovr = s.ovr := rfl
@[simp] theorem State.markRunning_err : (s.markRunning).err = s.err := rfl
@[simp] theorem State.markRunning_result : (s.markRunning).result = s.result := rfl
@[simp] theorem State.markRunning_srcRank : (s.markRunning).srcRank = s.srcRank := rfl
@[simp] theorem State.markRunning_srcDim0 : (s.markRunning).srcDim0 = s.srcDim0 := rfl
@[simp] theorem State.markRunning_srcDim1 : (s.markRunning).srcDim1 = s.srcDim1 := rfl
@[simp] theorem State.markRunning_srcDim2 : (s.markRunning).srcDim2 = s.srcDim2 := rfl
@[simp] theorem State.markRunning_srcLen : (s.markRunning).srcLen = s.srcLen := rfl
@[simp] theorem State.markRunning_finRLo : (s.markRunning).finRLo = s.finRLo := rfl
@[simp] theorem State.markRunning_finRHi : (s.markRunning).finRHi = s.finRHi := rfl
@[simp] theorem State.markRunning_finGLo : (s.markRunning).finGLo = s.finGLo := rfl
@[simp] theorem State.markRunning_finGHi : (s.markRunning).finGHi = s.finGHi := rfl
@[simp] theorem State.markRunning_finBLo : (s.markRunning).finBLo = s.finBLo := rfl
@[simp] theorem State.markRunning_finBHi : (s.markRunning).finBHi = s.finBHi := rfl
@[simp] theorem State.markRunning_keyIn : (s.markRunning).keyIn = s.keyIn := rfl
@[simp] theorem State.markRunning_pos : (s.markRunning).pos = s.pos := rfl
@[simp] theorem State.markRunning_jobEtype : (s.markRunning).jobEtype = s.jobEtype := rfl
@[simp] theorem State.markRunning_src : (s.markRunning).src = s.src := rfl
@[simp] theorem State.markRunning_fout : (s.markRunning).fout = s.fout := rfl
@[simp] theorem State.markRunning_resets : (s.markRunning).resets = s.resets := rfl
@[simp] theorem State.markRunning_draws : (s.markRunning).draws = s.draws := rfl
@[simp] theorem State.markRunning_turn : (s.markRunning).turn = s.turn := rfl
@[simp] theorem State.markRunning_turns : (s.markRunning).turns = s.turns := rfl
@[simp] theorem State.markRunning_pending : (s.markRunning).pending = s.pending := rfl
@[simp] theorem State.markRunning_reads : (s.markRunning).reads = s.reads := rfl

/-! `State.markComplete`. -/

@[simp] theorem State.markComplete_busy : (s.markComplete).busy = false := rfl
@[simp] theorem State.markComplete_done : (s.markComplete).done = true := rfl
@[simp] theorem State.markComplete_fvalid : (s.markComplete).fvalid = true := rfl
@[simp] theorem State.markComplete_ovr : (s.markComplete).ovr = s.ovr := rfl
@[simp] theorem State.markComplete_err : (s.markComplete).err = s.err := rfl
@[simp] theorem State.markComplete_result : (s.markComplete).result = s.result := rfl
@[simp] theorem State.markComplete_srcRank : (s.markComplete).srcRank = s.srcRank := rfl
@[simp] theorem State.markComplete_srcDim0 : (s.markComplete).srcDim0 = s.srcDim0 := rfl
@[simp] theorem State.markComplete_srcDim1 : (s.markComplete).srcDim1 = s.srcDim1 := rfl
@[simp] theorem State.markComplete_srcDim2 : (s.markComplete).srcDim2 = s.srcDim2 := rfl
@[simp] theorem State.markComplete_srcLen : (s.markComplete).srcLen = s.srcLen := rfl
@[simp] theorem State.markComplete_finRLo : (s.markComplete).finRLo = s.finRLo := rfl
@[simp] theorem State.markComplete_finRHi : (s.markComplete).finRHi = s.finRHi := rfl
@[simp] theorem State.markComplete_finGLo : (s.markComplete).finGLo = s.finGLo := rfl
@[simp] theorem State.markComplete_finGHi : (s.markComplete).finGHi = s.finGHi := rfl
@[simp] theorem State.markComplete_finBLo : (s.markComplete).finBLo = s.finBLo := rfl
@[simp] theorem State.markComplete_finBHi : (s.markComplete).finBHi = s.finBHi := rfl
@[simp] theorem State.markComplete_keyIn : (s.markComplete).keyIn = s.keyIn := rfl
@[simp] theorem State.markComplete_pos : (s.markComplete).pos = s.pos := rfl
@[simp] theorem State.markComplete_jobEtype : (s.markComplete).jobEtype = s.jobEtype := rfl
@[simp] theorem State.markComplete_src : (s.markComplete).src = s.src := rfl
@[simp] theorem State.markComplete_fout : (s.markComplete).fout = s.fout := rfl
@[simp] theorem State.markComplete_resets : (s.markComplete).resets = s.resets := rfl
@[simp] theorem State.markComplete_draws : (s.markComplete).draws = s.draws := rfl
@[simp] theorem State.markComplete_turn : (s.markComplete).turn = s.turn := rfl
@[simp] theorem State.markComplete_turns : (s.markComplete).turns = s.turns := rfl
@[simp] theorem State.markComplete_pending : (s.markComplete).pending = s.pending := rfl
@[simp] theorem State.markComplete_reads : (s.markComplete).reads = s.reads := rfl

/-! `State.putFout`. -/

@[simp] theorem State.putFout_busy (a : Nat) (b : Byte) : (s.putFout a b).busy = s.busy := rfl
@[simp] theorem State.putFout_done (a : Nat) (b : Byte) : (s.putFout a b).done = s.done := rfl
@[simp] theorem State.putFout_fvalid (a : Nat) (b : Byte) : (s.putFout a b).fvalid = s.fvalid := rfl
@[simp] theorem State.putFout_ovr (a : Nat) (b : Byte) : (s.putFout a b).ovr = s.ovr := rfl
@[simp] theorem State.putFout_err (a : Nat) (b : Byte) : (s.putFout a b).err = s.err := rfl
@[simp] theorem State.putFout_result (a : Nat) (b : Byte) : (s.putFout a b).result = s.result := rfl
@[simp] theorem State.putFout_srcRank (a : Nat) (b : Byte) : (s.putFout a b).srcRank = s.srcRank := rfl
@[simp] theorem State.putFout_srcDim0 (a : Nat) (b : Byte) : (s.putFout a b).srcDim0 = s.srcDim0 := rfl
@[simp] theorem State.putFout_srcDim1 (a : Nat) (b : Byte) : (s.putFout a b).srcDim1 = s.srcDim1 := rfl
@[simp] theorem State.putFout_srcDim2 (a : Nat) (b : Byte) : (s.putFout a b).srcDim2 = s.srcDim2 := rfl
@[simp] theorem State.putFout_srcLen (a : Nat) (b : Byte) : (s.putFout a b).srcLen = s.srcLen := rfl
@[simp] theorem State.putFout_finRLo (a : Nat) (b : Byte) : (s.putFout a b).finRLo = s.finRLo := rfl
@[simp] theorem State.putFout_finRHi (a : Nat) (b : Byte) : (s.putFout a b).finRHi = s.finRHi := rfl
@[simp] theorem State.putFout_finGLo (a : Nat) (b : Byte) : (s.putFout a b).finGLo = s.finGLo := rfl
@[simp] theorem State.putFout_finGHi (a : Nat) (b : Byte) : (s.putFout a b).finGHi = s.finGHi := rfl
@[simp] theorem State.putFout_finBLo (a : Nat) (b : Byte) : (s.putFout a b).finBLo = s.finBLo := rfl
@[simp] theorem State.putFout_finBHi (a : Nat) (b : Byte) : (s.putFout a b).finBHi = s.finBHi := rfl
@[simp] theorem State.putFout_keyIn (a : Nat) (b : Byte) : (s.putFout a b).keyIn = s.keyIn := rfl
@[simp] theorem State.putFout_pos (a : Nat) (b : Byte) : (s.putFout a b).pos = s.pos := rfl
@[simp] theorem State.putFout_jobEtype (a : Nat) (b : Byte) : (s.putFout a b).jobEtype = s.jobEtype := rfl
@[simp] theorem State.putFout_src (a : Nat) (b : Byte) : (s.putFout a b).src = s.src := rfl
@[simp] theorem State.putFout_fout (a : Nat) (b : Byte) : (s.putFout a b).fout = Memory.write s.fout a b := rfl
@[simp] theorem State.putFout_resets (a : Nat) (b : Byte) : (s.putFout a b).resets = s.resets := rfl
@[simp] theorem State.putFout_draws (a : Nat) (b : Byte) : (s.putFout a b).draws = s.draws := rfl
@[simp] theorem State.putFout_turn (a : Nat) (b : Byte) : (s.putFout a b).turn = s.turn := rfl
@[simp] theorem State.putFout_turns (a : Nat) (b : Byte) : (s.putFout a b).turns = s.turns := rfl
@[simp] theorem State.putFout_pending (a : Nat) (b : Byte) : (s.putFout a b).pending = s.pending := rfl
@[simp] theorem State.putFout_reads (a : Nat) (b : Byte) : (s.putFout a b).reads = s.reads := rfl

/-! `State.putSrc`. -/

@[simp] theorem State.putSrc_busy (a : Nat) (b : Byte) : (s.putSrc a b).busy = s.busy := rfl
@[simp] theorem State.putSrc_done (a : Nat) (b : Byte) : (s.putSrc a b).done = s.done := rfl
@[simp] theorem State.putSrc_fvalid (a : Nat) (b : Byte) : (s.putSrc a b).fvalid = s.fvalid := rfl
@[simp] theorem State.putSrc_ovr (a : Nat) (b : Byte) : (s.putSrc a b).ovr = s.ovr := rfl
@[simp] theorem State.putSrc_err (a : Nat) (b : Byte) : (s.putSrc a b).err = s.err := rfl
@[simp] theorem State.putSrc_result (a : Nat) (b : Byte) : (s.putSrc a b).result = s.result := rfl
@[simp] theorem State.putSrc_srcRank (a : Nat) (b : Byte) : (s.putSrc a b).srcRank = s.srcRank := rfl
@[simp] theorem State.putSrc_srcDim0 (a : Nat) (b : Byte) : (s.putSrc a b).srcDim0 = s.srcDim0 := rfl
@[simp] theorem State.putSrc_srcDim1 (a : Nat) (b : Byte) : (s.putSrc a b).srcDim1 = s.srcDim1 := rfl
@[simp] theorem State.putSrc_srcDim2 (a : Nat) (b : Byte) : (s.putSrc a b).srcDim2 = s.srcDim2 := rfl
@[simp] theorem State.putSrc_srcLen (a : Nat) (b : Byte) : (s.putSrc a b).srcLen = s.srcLen := rfl
@[simp] theorem State.putSrc_finRLo (a : Nat) (b : Byte) : (s.putSrc a b).finRLo = s.finRLo := rfl
@[simp] theorem State.putSrc_finRHi (a : Nat) (b : Byte) : (s.putSrc a b).finRHi = s.finRHi := rfl
@[simp] theorem State.putSrc_finGLo (a : Nat) (b : Byte) : (s.putSrc a b).finGLo = s.finGLo := rfl
@[simp] theorem State.putSrc_finGHi (a : Nat) (b : Byte) : (s.putSrc a b).finGHi = s.finGHi := rfl
@[simp] theorem State.putSrc_finBLo (a : Nat) (b : Byte) : (s.putSrc a b).finBLo = s.finBLo := rfl
@[simp] theorem State.putSrc_finBHi (a : Nat) (b : Byte) : (s.putSrc a b).finBHi = s.finBHi := rfl
@[simp] theorem State.putSrc_keyIn (a : Nat) (b : Byte) : (s.putSrc a b).keyIn = s.keyIn := rfl
@[simp] theorem State.putSrc_pos (a : Nat) (b : Byte) : (s.putSrc a b).pos = s.pos := rfl
@[simp] theorem State.putSrc_jobEtype (a : Nat) (b : Byte) : (s.putSrc a b).jobEtype = s.jobEtype := rfl
@[simp] theorem State.putSrc_src (a : Nat) (b : Byte) : (s.putSrc a b).src = Memory.write s.src a b := rfl
@[simp] theorem State.putSrc_fout (a : Nat) (b : Byte) : (s.putSrc a b).fout = s.fout := rfl
@[simp] theorem State.putSrc_resets (a : Nat) (b : Byte) : (s.putSrc a b).resets = s.resets := rfl
@[simp] theorem State.putSrc_draws (a : Nat) (b : Byte) : (s.putSrc a b).draws = s.draws := rfl
@[simp] theorem State.putSrc_turn (a : Nat) (b : Byte) : (s.putSrc a b).turn = s.turn := rfl
@[simp] theorem State.putSrc_turns (a : Nat) (b : Byte) : (s.putSrc a b).turns = s.turns := rfl
@[simp] theorem State.putSrc_pending (a : Nat) (b : Byte) : (s.putSrc a b).pending = s.pending := rfl
@[simp] theorem State.putSrc_reads (a : Nat) (b : Byte) : (s.putSrc a b).reads = s.reads := rfl

/-! `State.storeKeyIn`. -/

@[simp] theorem State.storeKeyIn_busy (rep : Half) : (s.storeKeyIn rep).busy = s.busy := rfl
@[simp] theorem State.storeKeyIn_done (rep : Half) : (s.storeKeyIn rep).done = s.done := rfl
@[simp] theorem State.storeKeyIn_fvalid (rep : Half) : (s.storeKeyIn rep).fvalid = s.fvalid := rfl
@[simp] theorem State.storeKeyIn_ovr (rep : Half) : (s.storeKeyIn rep).ovr = s.ovr := rfl
@[simp] theorem State.storeKeyIn_err (rep : Half) : (s.storeKeyIn rep).err = s.err := rfl
@[simp] theorem State.storeKeyIn_result (rep : Half) : (s.storeKeyIn rep).result = s.result := rfl
@[simp] theorem State.storeKeyIn_srcRank (rep : Half) : (s.storeKeyIn rep).srcRank = s.srcRank := rfl
@[simp] theorem State.storeKeyIn_srcDim0 (rep : Half) : (s.storeKeyIn rep).srcDim0 = s.srcDim0 := rfl
@[simp] theorem State.storeKeyIn_srcDim1 (rep : Half) : (s.storeKeyIn rep).srcDim1 = s.srcDim1 := rfl
@[simp] theorem State.storeKeyIn_srcDim2 (rep : Half) : (s.storeKeyIn rep).srcDim2 = s.srcDim2 := rfl
@[simp] theorem State.storeKeyIn_srcLen (rep : Half) : (s.storeKeyIn rep).srcLen = s.srcLen := rfl
@[simp] theorem State.storeKeyIn_finRLo (rep : Half) : (s.storeKeyIn rep).finRLo = s.finRLo := rfl
@[simp] theorem State.storeKeyIn_finRHi (rep : Half) : (s.storeKeyIn rep).finRHi = s.finRHi := rfl
@[simp] theorem State.storeKeyIn_finGLo (rep : Half) : (s.storeKeyIn rep).finGLo = s.finGLo := rfl
@[simp] theorem State.storeKeyIn_finGHi (rep : Half) : (s.storeKeyIn rep).finGHi = s.finGHi := rfl
@[simp] theorem State.storeKeyIn_finBLo (rep : Half) : (s.storeKeyIn rep).finBLo = s.finBLo := rfl
@[simp] theorem State.storeKeyIn_finBHi (rep : Half) : (s.storeKeyIn rep).finBHi = s.finBHi := rfl
@[simp] theorem State.storeKeyIn_keyIn (rep : Half) : (s.storeKeyIn rep).keyIn = rep.setWidth 32 := rfl
@[simp] theorem State.storeKeyIn_pos (rep : Half) : (s.storeKeyIn rep).pos = s.pos := rfl
@[simp] theorem State.storeKeyIn_jobEtype (rep : Half) : (s.storeKeyIn rep).jobEtype = s.jobEtype := rfl
@[simp] theorem State.storeKeyIn_src (rep : Half) : (s.storeKeyIn rep).src = s.src := rfl
@[simp] theorem State.storeKeyIn_fout (rep : Half) : (s.storeKeyIn rep).fout = s.fout := rfl
@[simp] theorem State.storeKeyIn_resets (rep : Half) : (s.storeKeyIn rep).resets = s.resets := rfl
@[simp] theorem State.storeKeyIn_draws (rep : Half) : (s.storeKeyIn rep).draws = s.draws := rfl
@[simp] theorem State.storeKeyIn_turn (rep : Half) : (s.storeKeyIn rep).turn = s.turn := rfl
@[simp] theorem State.storeKeyIn_turns (rep : Half) : (s.storeKeyIn rep).turns = s.turns := rfl
@[simp] theorem State.storeKeyIn_pending (rep : Half) : (s.storeKeyIn rep).pending = s.pending := rfl
@[simp] theorem State.storeKeyIn_reads (rep : Half) : (s.storeKeyIn rep).reads = s.reads := rfl

/-! `State.setResult`. -/

@[simp] theorem State.setResult_busy (w : Half) : (s.setResult w).busy = s.busy := rfl
@[simp] theorem State.setResult_done (w : Half) : (s.setResult w).done = s.done := rfl
@[simp] theorem State.setResult_fvalid (w : Half) : (s.setResult w).fvalid = s.fvalid := rfl
@[simp] theorem State.setResult_ovr (w : Half) : (s.setResult w).ovr = s.ovr := rfl
@[simp] theorem State.setResult_err (w : Half) : (s.setResult w).err = s.err := rfl
@[simp] theorem State.setResult_result (w : Half) : (s.setResult w).result = w.setWidth 32 := rfl
@[simp] theorem State.setResult_srcRank (w : Half) : (s.setResult w).srcRank = s.srcRank := rfl
@[simp] theorem State.setResult_srcDim0 (w : Half) : (s.setResult w).srcDim0 = s.srcDim0 := rfl
@[simp] theorem State.setResult_srcDim1 (w : Half) : (s.setResult w).srcDim1 = s.srcDim1 := rfl
@[simp] theorem State.setResult_srcDim2 (w : Half) : (s.setResult w).srcDim2 = s.srcDim2 := rfl
@[simp] theorem State.setResult_srcLen (w : Half) : (s.setResult w).srcLen = s.srcLen := rfl
@[simp] theorem State.setResult_finRLo (w : Half) : (s.setResult w).finRLo = s.finRLo := rfl
@[simp] theorem State.setResult_finRHi (w : Half) : (s.setResult w).finRHi = s.finRHi := rfl
@[simp] theorem State.setResult_finGLo (w : Half) : (s.setResult w).finGLo = s.finGLo := rfl
@[simp] theorem State.setResult_finGHi (w : Half) : (s.setResult w).finGHi = s.finGHi := rfl
@[simp] theorem State.setResult_finBLo (w : Half) : (s.setResult w).finBLo = s.finBLo := rfl
@[simp] theorem State.setResult_finBHi (w : Half) : (s.setResult w).finBHi = s.finBHi := rfl
@[simp] theorem State.setResult_keyIn (w : Half) : (s.setResult w).keyIn = s.keyIn := rfl
@[simp] theorem State.setResult_pos (w : Half) : (s.setResult w).pos = s.pos := rfl
@[simp] theorem State.setResult_jobEtype (w : Half) : (s.setResult w).jobEtype = s.jobEtype := rfl
@[simp] theorem State.setResult_src (w : Half) : (s.setResult w).src = s.src := rfl
@[simp] theorem State.setResult_fout (w : Half) : (s.setResult w).fout = s.fout := rfl
@[simp] theorem State.setResult_resets (w : Half) : (s.setResult w).resets = s.resets := rfl
@[simp] theorem State.setResult_draws (w : Half) : (s.setResult w).draws = s.draws := rfl
@[simp] theorem State.setResult_turn (w : Half) : (s.setResult w).turn = s.turn := rfl
@[simp] theorem State.setResult_turns (w : Half) : (s.setResult w).turns = s.turns := rfl
@[simp] theorem State.setResult_pending (w : Half) : (s.setResult w).pending = s.pending := rfl
@[simp] theorem State.setResult_reads (w : Half) : (s.setResult w).reads = s.reads := rfl

/-! `State.raise`. -/

@[simp] theorem State.raise_busy (e : ErrorKind) : (s.raise e).busy = s.busy := rfl
@[simp] theorem State.raise_done (e : ErrorKind) : (s.raise e).done = true := rfl
@[simp] theorem State.raise_fvalid (e : ErrorKind) : (s.raise e).fvalid = s.fvalid := rfl
@[simp] theorem State.raise_ovr (e : ErrorKind) : (s.raise e).ovr = s.ovr := rfl
@[simp] theorem State.raise_err (e : ErrorKind) : (s.raise e).err = errorCode e := rfl
@[simp] theorem State.raise_result (e : ErrorKind) : (s.raise e).result = s.result := rfl
@[simp] theorem State.raise_srcRank (e : ErrorKind) : (s.raise e).srcRank = s.srcRank := rfl
@[simp] theorem State.raise_srcDim0 (e : ErrorKind) : (s.raise e).srcDim0 = s.srcDim0 := rfl
@[simp] theorem State.raise_srcDim1 (e : ErrorKind) : (s.raise e).srcDim1 = s.srcDim1 := rfl
@[simp] theorem State.raise_srcDim2 (e : ErrorKind) : (s.raise e).srcDim2 = s.srcDim2 := rfl
@[simp] theorem State.raise_srcLen (e : ErrorKind) : (s.raise e).srcLen = s.srcLen := rfl
@[simp] theorem State.raise_finRLo (e : ErrorKind) : (s.raise e).finRLo = s.finRLo := rfl
@[simp] theorem State.raise_finRHi (e : ErrorKind) : (s.raise e).finRHi = s.finRHi := rfl
@[simp] theorem State.raise_finGLo (e : ErrorKind) : (s.raise e).finGLo = s.finGLo := rfl
@[simp] theorem State.raise_finGHi (e : ErrorKind) : (s.raise e).finGHi = s.finGHi := rfl
@[simp] theorem State.raise_finBLo (e : ErrorKind) : (s.raise e).finBLo = s.finBLo := rfl
@[simp] theorem State.raise_finBHi (e : ErrorKind) : (s.raise e).finBHi = s.finBHi := rfl
@[simp] theorem State.raise_keyIn (e : ErrorKind) : (s.raise e).keyIn = s.keyIn := rfl
@[simp] theorem State.raise_pos (e : ErrorKind) : (s.raise e).pos = s.pos := rfl
@[simp] theorem State.raise_jobEtype (e : ErrorKind) : (s.raise e).jobEtype = s.jobEtype := rfl
@[simp] theorem State.raise_src (e : ErrorKind) : (s.raise e).src = s.src := rfl
@[simp] theorem State.raise_fout (e : ErrorKind) : (s.raise e).fout = s.fout := rfl
@[simp] theorem State.raise_resets (e : ErrorKind) : (s.raise e).resets = s.resets := rfl
@[simp] theorem State.raise_draws (e : ErrorKind) : (s.raise e).draws = s.draws := rfl
@[simp] theorem State.raise_turn (e : ErrorKind) : (s.raise e).turn = s.turn := rfl
@[simp] theorem State.raise_turns (e : ErrorKind) : (s.raise e).turns = s.turns := rfl
@[simp] theorem State.raise_pending (e : ErrorKind) : (s.raise e).pending = s.pending := rfl
@[simp] theorem State.raise_reads (e : ErrorKind) : (s.raise e).reads = s.reads := rfl

/-! `State.record`. -/

@[simp] theorem State.record_busy (r : ReadValue) : (s.record r).busy = s.busy := rfl
@[simp] theorem State.record_done (r : ReadValue) : (s.record r).done = s.done := rfl
@[simp] theorem State.record_fvalid (r : ReadValue) : (s.record r).fvalid = s.fvalid := rfl
@[simp] theorem State.record_ovr (r : ReadValue) : (s.record r).ovr = s.ovr := rfl
@[simp] theorem State.record_err (r : ReadValue) : (s.record r).err = s.err := rfl
@[simp] theorem State.record_result (r : ReadValue) : (s.record r).result = s.result := rfl
@[simp] theorem State.record_srcRank (r : ReadValue) : (s.record r).srcRank = s.srcRank := rfl
@[simp] theorem State.record_srcDim0 (r : ReadValue) : (s.record r).srcDim0 = s.srcDim0 := rfl
@[simp] theorem State.record_srcDim1 (r : ReadValue) : (s.record r).srcDim1 = s.srcDim1 := rfl
@[simp] theorem State.record_srcDim2 (r : ReadValue) : (s.record r).srcDim2 = s.srcDim2 := rfl
@[simp] theorem State.record_srcLen (r : ReadValue) : (s.record r).srcLen = s.srcLen := rfl
@[simp] theorem State.record_finRLo (r : ReadValue) : (s.record r).finRLo = s.finRLo := rfl
@[simp] theorem State.record_finRHi (r : ReadValue) : (s.record r).finRHi = s.finRHi := rfl
@[simp] theorem State.record_finGLo (r : ReadValue) : (s.record r).finGLo = s.finGLo := rfl
@[simp] theorem State.record_finGHi (r : ReadValue) : (s.record r).finGHi = s.finGHi := rfl
@[simp] theorem State.record_finBLo (r : ReadValue) : (s.record r).finBLo = s.finBLo := rfl
@[simp] theorem State.record_finBHi (r : ReadValue) : (s.record r).finBHi = s.finBHi := rfl
@[simp] theorem State.record_keyIn (r : ReadValue) : (s.record r).keyIn = s.keyIn := rfl
@[simp] theorem State.record_pos (r : ReadValue) : (s.record r).pos = s.pos := rfl
@[simp] theorem State.record_jobEtype (r : ReadValue) : (s.record r).jobEtype = s.jobEtype := rfl
@[simp] theorem State.record_src (r : ReadValue) : (s.record r).src = s.src := rfl
@[simp] theorem State.record_fout (r : ReadValue) : (s.record r).fout = s.fout := rfl
@[simp] theorem State.record_resets (r : ReadValue) : (s.record r).resets = s.resets := rfl
@[simp] theorem State.record_draws (r : ReadValue) : (s.record r).draws = s.draws := rfl
@[simp] theorem State.record_turn (r : ReadValue) : (s.record r).turn = s.turn := rfl
@[simp] theorem State.record_turns (r : ReadValue) : (s.record r).turns = s.turns := rfl
@[simp] theorem State.record_pending (r : ReadValue) : (s.record r).pending = s.pending := rfl
@[simp] theorem State.record_reads (r : ReadValue) : (s.record r).reads = s.reads ++ [r] := rfl

/-! `State.nextDraw`. -/

@[simp] theorem State.nextDraw_busy : (s.nextDraw).busy = s.busy := rfl
@[simp] theorem State.nextDraw_done : (s.nextDraw).done = s.done := rfl
@[simp] theorem State.nextDraw_fvalid : (s.nextDraw).fvalid = s.fvalid := rfl
@[simp] theorem State.nextDraw_ovr : (s.nextDraw).ovr = s.ovr := rfl
@[simp] theorem State.nextDraw_err : (s.nextDraw).err = s.err := rfl
@[simp] theorem State.nextDraw_result : (s.nextDraw).result = s.result := rfl
@[simp] theorem State.nextDraw_srcRank : (s.nextDraw).srcRank = s.srcRank := rfl
@[simp] theorem State.nextDraw_srcDim0 : (s.nextDraw).srcDim0 = s.srcDim0 := rfl
@[simp] theorem State.nextDraw_srcDim1 : (s.nextDraw).srcDim1 = s.srcDim1 := rfl
@[simp] theorem State.nextDraw_srcDim2 : (s.nextDraw).srcDim2 = s.srcDim2 := rfl
@[simp] theorem State.nextDraw_srcLen : (s.nextDraw).srcLen = s.srcLen := rfl
@[simp] theorem State.nextDraw_finRLo : (s.nextDraw).finRLo = s.finRLo := rfl
@[simp] theorem State.nextDraw_finRHi : (s.nextDraw).finRHi = s.finRHi := rfl
@[simp] theorem State.nextDraw_finGLo : (s.nextDraw).finGLo = s.finGLo := rfl
@[simp] theorem State.nextDraw_finGHi : (s.nextDraw).finGHi = s.finGHi := rfl
@[simp] theorem State.nextDraw_finBLo : (s.nextDraw).finBLo = s.finBLo := rfl
@[simp] theorem State.nextDraw_finBHi : (s.nextDraw).finBHi = s.finBHi := rfl
@[simp] theorem State.nextDraw_keyIn : (s.nextDraw).keyIn = s.keyIn := rfl
@[simp] theorem State.nextDraw_pos : (s.nextDraw).pos = s.pos := rfl
@[simp] theorem State.nextDraw_jobEtype : (s.nextDraw).jobEtype = s.jobEtype := rfl
@[simp] theorem State.nextDraw_src : (s.nextDraw).src = s.src := rfl
@[simp] theorem State.nextDraw_fout : (s.nextDraw).fout = s.fout := rfl
@[simp] theorem State.nextDraw_resets : (s.nextDraw).resets = s.resets := rfl
@[simp] theorem State.nextDraw_draws : (s.nextDraw).draws = s.draws + 1 := rfl
@[simp] theorem State.nextDraw_turn : (s.nextDraw).turn = s.turn := rfl
@[simp] theorem State.nextDraw_turns : (s.nextDraw).turns = s.turns := rfl
@[simp] theorem State.nextDraw_pending : (s.nextDraw).pending = s.pending := rfl
@[simp] theorem State.nextDraw_reads : (s.nextDraw).reads = s.reads := rfl

/-! `State.deliver`. -/

@[simp] theorem State.deliver_busy (w : Half) : (s.deliver w).busy = s.busy := rfl
@[simp] theorem State.deliver_done (w : Half) : (s.deliver w).done = true := rfl
@[simp] theorem State.deliver_fvalid (w : Half) : (s.deliver w).fvalid = s.fvalid := rfl
@[simp] theorem State.deliver_ovr (w : Half) : (s.deliver w).ovr = s.ovr := rfl
@[simp] theorem State.deliver_err (w : Half) : (s.deliver w).err = s.err := rfl
@[simp] theorem State.deliver_result (w : Half) : (s.deliver w).result = w.setWidth 32 := rfl
@[simp] theorem State.deliver_srcRank (w : Half) : (s.deliver w).srcRank = s.srcRank := rfl
@[simp] theorem State.deliver_srcDim0 (w : Half) : (s.deliver w).srcDim0 = s.srcDim0 := rfl
@[simp] theorem State.deliver_srcDim1 (w : Half) : (s.deliver w).srcDim1 = s.srcDim1 := rfl
@[simp] theorem State.deliver_srcDim2 (w : Half) : (s.deliver w).srcDim2 = s.srcDim2 := rfl
@[simp] theorem State.deliver_srcLen (w : Half) : (s.deliver w).srcLen = s.srcLen := rfl
@[simp] theorem State.deliver_finRLo (w : Half) : (s.deliver w).finRLo = s.finRLo := rfl
@[simp] theorem State.deliver_finRHi (w : Half) : (s.deliver w).finRHi = s.finRHi := rfl
@[simp] theorem State.deliver_finGLo (w : Half) : (s.deliver w).finGLo = s.finGLo := rfl
@[simp] theorem State.deliver_finGHi (w : Half) : (s.deliver w).finGHi = s.finGHi := rfl
@[simp] theorem State.deliver_finBLo (w : Half) : (s.deliver w).finBLo = s.finBLo := rfl
@[simp] theorem State.deliver_finBHi (w : Half) : (s.deliver w).finBHi = s.finBHi := rfl
@[simp] theorem State.deliver_keyIn (w : Half) : (s.deliver w).keyIn = s.keyIn := rfl
@[simp] theorem State.deliver_pos (w : Half) : (s.deliver w).pos = s.pos := rfl
@[simp] theorem State.deliver_jobEtype (w : Half) : (s.deliver w).jobEtype = s.jobEtype := rfl
@[simp] theorem State.deliver_src (w : Half) : (s.deliver w).src = s.src := rfl
@[simp] theorem State.deliver_fout (w : Half) : (s.deliver w).fout = s.fout := rfl
@[simp] theorem State.deliver_resets (w : Half) : (s.deliver w).resets = s.resets := rfl
@[simp] theorem State.deliver_draws (w : Half) : (s.deliver w).draws = s.draws := rfl
@[simp] theorem State.deliver_turn (w : Half) : (s.deliver w).turn = s.turn := rfl
@[simp] theorem State.deliver_turns (w : Half) : (s.deliver w).turns = s.turns := rfl
@[simp] theorem State.deliver_pending (w : Half) : (s.deliver w).pending = s.pending := rfl
@[simp] theorem State.deliver_reads (w : Half) : (s.deliver w).reads = s.reads := rfl

/-! `State.startJob`. -/

@[simp] theorem State.startJob_busy (t : JobEtype) : (s.startJob t).busy = true := rfl
@[simp] theorem State.startJob_done (t : JobEtype) : (s.startJob t).done = s.done := rfl
@[simp] theorem State.startJob_fvalid (t : JobEtype) : (s.startJob t).fvalid = false := rfl
@[simp] theorem State.startJob_ovr (t : JobEtype) : (s.startJob t).ovr = s.ovr := rfl
@[simp] theorem State.startJob_err (t : JobEtype) : (s.startJob t).err = s.err := rfl
@[simp] theorem State.startJob_result (t : JobEtype) : (s.startJob t).result = s.result := rfl
@[simp] theorem State.startJob_srcRank (t : JobEtype) : (s.startJob t).srcRank = s.srcRank := rfl
@[simp] theorem State.startJob_srcDim0 (t : JobEtype) : (s.startJob t).srcDim0 = s.srcDim0 := rfl
@[simp] theorem State.startJob_srcDim1 (t : JobEtype) : (s.startJob t).srcDim1 = s.srcDim1 := rfl
@[simp] theorem State.startJob_srcDim2 (t : JobEtype) : (s.startJob t).srcDim2 = s.srcDim2 := rfl
@[simp] theorem State.startJob_srcLen (t : JobEtype) : (s.startJob t).srcLen = s.srcLen := rfl
@[simp] theorem State.startJob_finRLo (t : JobEtype) : (s.startJob t).finRLo = s.finRLo := rfl
@[simp] theorem State.startJob_finRHi (t : JobEtype) : (s.startJob t).finRHi = s.finRHi := rfl
@[simp] theorem State.startJob_finGLo (t : JobEtype) : (s.startJob t).finGLo = s.finGLo := rfl
@[simp] theorem State.startJob_finGHi (t : JobEtype) : (s.startJob t).finGHi = s.finGHi := rfl
@[simp] theorem State.startJob_finBLo (t : JobEtype) : (s.startJob t).finBLo = s.finBLo := rfl
@[simp] theorem State.startJob_finBHi (t : JobEtype) : (s.startJob t).finBHi = s.finBHi := rfl
@[simp] theorem State.startJob_keyIn (t : JobEtype) : (s.startJob t).keyIn = s.keyIn := rfl
@[simp] theorem State.startJob_pos (t : JobEtype) : (s.startJob t).pos = 0#18 := rfl
@[simp] theorem State.startJob_jobEtype (t : JobEtype) : (s.startJob t).jobEtype = t := rfl
@[simp] theorem State.startJob_src (t : JobEtype) : (s.startJob t).src = s.src := rfl
@[simp] theorem State.startJob_fout (t : JobEtype) : (s.startJob t).fout = s.fout := rfl
@[simp] theorem State.startJob_resets (t : JobEtype) : (s.startJob t).resets = s.resets := rfl
@[simp] theorem State.startJob_draws (t : JobEtype) : (s.startJob t).draws = s.draws + 1 := rfl
@[simp] theorem State.startJob_turn (t : JobEtype) : (s.startJob t).turn = s.turn := rfl
@[simp] theorem State.startJob_turns (t : JobEtype) : (s.startJob t).turns = s.turns := rfl
@[simp] theorem State.startJob_pending (t : JobEtype) : (s.startJob t).pending = s.pending := rfl
@[simp] theorem State.startJob_reads (t : JobEtype) : (s.startJob t).reads = s.reads := rfl

/-! `State.advancePos`. -/

@[simp] theorem State.advancePos_busy : (s.advancePos).busy = s.busy := rfl
@[simp] theorem State.advancePos_done : (s.advancePos).done = s.done := rfl
@[simp] theorem State.advancePos_fvalid : (s.advancePos).fvalid = s.fvalid := rfl
@[simp] theorem State.advancePos_ovr : (s.advancePos).ovr = s.ovr := rfl
@[simp] theorem State.advancePos_err : (s.advancePos).err = s.err := rfl
@[simp] theorem State.advancePos_result : (s.advancePos).result = s.result := rfl
@[simp] theorem State.advancePos_srcRank : (s.advancePos).srcRank = s.srcRank := rfl
@[simp] theorem State.advancePos_srcDim0 : (s.advancePos).srcDim0 = s.srcDim0 := rfl
@[simp] theorem State.advancePos_srcDim1 : (s.advancePos).srcDim1 = s.srcDim1 := rfl
@[simp] theorem State.advancePos_srcDim2 : (s.advancePos).srcDim2 = s.srcDim2 := rfl
@[simp] theorem State.advancePos_srcLen : (s.advancePos).srcLen = s.srcLen := rfl
@[simp] theorem State.advancePos_finRLo : (s.advancePos).finRLo = s.finRLo := rfl
@[simp] theorem State.advancePos_finRHi : (s.advancePos).finRHi = s.finRHi := rfl
@[simp] theorem State.advancePos_finGLo : (s.advancePos).finGLo = s.finGLo := rfl
@[simp] theorem State.advancePos_finGHi : (s.advancePos).finGHi = s.finGHi := rfl
@[simp] theorem State.advancePos_finBLo : (s.advancePos).finBLo = s.finBLo := rfl
@[simp] theorem State.advancePos_finBHi : (s.advancePos).finBHi = s.finBHi := rfl
@[simp] theorem State.advancePos_keyIn : (s.advancePos).keyIn = s.keyIn := rfl
@[simp] theorem State.advancePos_pos : (s.advancePos).pos = s.pos + 1#18 := rfl
@[simp] theorem State.advancePos_jobEtype : (s.advancePos).jobEtype = s.jobEtype := rfl
@[simp] theorem State.advancePos_src : (s.advancePos).src = s.src := rfl
@[simp] theorem State.advancePos_fout : (s.advancePos).fout = s.fout := rfl
@[simp] theorem State.advancePos_resets : (s.advancePos).resets = s.resets := rfl
@[simp] theorem State.advancePos_draws : (s.advancePos).draws = s.draws := rfl
@[simp] theorem State.advancePos_turn : (s.advancePos).turn = s.turn := rfl
@[simp] theorem State.advancePos_turns : (s.advancePos).turns = s.turns := rfl
@[simp] theorem State.advancePos_pending : (s.advancePos).pending = s.pending := rfl
@[simp] theorem State.advancePos_reads : (s.advancePos).reads = s.reads := rfl

/-! `State.drawTurn`. -/

@[simp] theorem State.drawTurn_busy : (s.drawTurn).busy = s.busy := rfl
@[simp] theorem State.drawTurn_done : (s.drawTurn).done = s.done := rfl
@[simp] theorem State.drawTurn_fvalid : (s.drawTurn).fvalid = s.fvalid := rfl
@[simp] theorem State.drawTurn_ovr : (s.drawTurn).ovr = s.ovr := rfl
@[simp] theorem State.drawTurn_err : (s.drawTurn).err = s.err := rfl
@[simp] theorem State.drawTurn_result : (s.drawTurn).result = s.result := rfl
@[simp] theorem State.drawTurn_srcRank : (s.drawTurn).srcRank = s.srcRank := rfl
@[simp] theorem State.drawTurn_srcDim0 : (s.drawTurn).srcDim0 = s.srcDim0 := rfl
@[simp] theorem State.drawTurn_srcDim1 : (s.drawTurn).srcDim1 = s.srcDim1 := rfl
@[simp] theorem State.drawTurn_srcDim2 : (s.drawTurn).srcDim2 = s.srcDim2 := rfl
@[simp] theorem State.drawTurn_srcLen : (s.drawTurn).srcLen = s.srcLen := rfl
@[simp] theorem State.drawTurn_finRLo : (s.drawTurn).finRLo = s.finRLo := rfl
@[simp] theorem State.drawTurn_finRHi : (s.drawTurn).finRHi = s.finRHi := rfl
@[simp] theorem State.drawTurn_finGLo : (s.drawTurn).finGLo = s.finGLo := rfl
@[simp] theorem State.drawTurn_finGHi : (s.drawTurn).finGHi = s.finGHi := rfl
@[simp] theorem State.drawTurn_finBLo : (s.drawTurn).finBLo = s.finBLo := rfl
@[simp] theorem State.drawTurn_finBHi : (s.drawTurn).finBHi = s.finBHi := rfl
@[simp] theorem State.drawTurn_keyIn : (s.drawTurn).keyIn = s.keyIn := rfl
@[simp] theorem State.drawTurn_pos : (s.drawTurn).pos = s.pos := rfl
@[simp] theorem State.drawTurn_jobEtype : (s.drawTurn).jobEtype = s.jobEtype := rfl
@[simp] theorem State.drawTurn_src : (s.drawTurn).src = s.src := rfl
@[simp] theorem State.drawTurn_fout : (s.drawTurn).fout = s.fout := rfl
@[simp] theorem State.drawTurn_resets : (s.drawTurn).resets = s.resets := rfl
@[simp] theorem State.drawTurn_draws : (s.drawTurn).draws = s.draws := rfl
@[simp] theorem State.drawTurn_turn : (s.drawTurn).turn = Config.freeTurn s.turns := rfl
@[simp] theorem State.drawTurn_turns : (s.drawTurn).turns = s.turns + 1 := rfl
@[simp] theorem State.drawTurn_pending : (s.drawTurn).pending = s.pending := rfl
@[simp] theorem State.drawTurn_reads : (s.drawTurn).reads = s.reads := rfl

/-! `State.takeOp`. -/

@[simp] theorem State.takeOp_busy : (s.takeOp).busy = s.busy := rfl
@[simp] theorem State.takeOp_done : (s.takeOp).done = s.done := rfl
@[simp] theorem State.takeOp_fvalid : (s.takeOp).fvalid = s.fvalid := rfl
@[simp] theorem State.takeOp_ovr : (s.takeOp).ovr = s.ovr := rfl
@[simp] theorem State.takeOp_err : (s.takeOp).err = s.err := rfl
@[simp] theorem State.takeOp_result : (s.takeOp).result = s.result := rfl
@[simp] theorem State.takeOp_srcRank : (s.takeOp).srcRank = s.srcRank := rfl
@[simp] theorem State.takeOp_srcDim0 : (s.takeOp).srcDim0 = s.srcDim0 := rfl
@[simp] theorem State.takeOp_srcDim1 : (s.takeOp).srcDim1 = s.srcDim1 := rfl
@[simp] theorem State.takeOp_srcDim2 : (s.takeOp).srcDim2 = s.srcDim2 := rfl
@[simp] theorem State.takeOp_srcLen : (s.takeOp).srcLen = s.srcLen := rfl
@[simp] theorem State.takeOp_finRLo : (s.takeOp).finRLo = s.finRLo := rfl
@[simp] theorem State.takeOp_finRHi : (s.takeOp).finRHi = s.finRHi := rfl
@[simp] theorem State.takeOp_finGLo : (s.takeOp).finGLo = s.finGLo := rfl
@[simp] theorem State.takeOp_finGHi : (s.takeOp).finGHi = s.finGHi := rfl
@[simp] theorem State.takeOp_finBLo : (s.takeOp).finBLo = s.finBLo := rfl
@[simp] theorem State.takeOp_finBHi : (s.takeOp).finBHi = s.finBHi := rfl
@[simp] theorem State.takeOp_keyIn : (s.takeOp).keyIn = s.keyIn := rfl
@[simp] theorem State.takeOp_pos : (s.takeOp).pos = s.pos := rfl
@[simp] theorem State.takeOp_jobEtype : (s.takeOp).jobEtype = s.jobEtype := rfl
@[simp] theorem State.takeOp_src : (s.takeOp).src = s.src := rfl
@[simp] theorem State.takeOp_fout : (s.takeOp).fout = s.fout := rfl
@[simp] theorem State.takeOp_resets : (s.takeOp).resets = s.resets := rfl
@[simp] theorem State.takeOp_draws : (s.takeOp).draws = s.draws := rfl
@[simp] theorem State.takeOp_turn : (s.takeOp).turn = s.turn := rfl
@[simp] theorem State.takeOp_turns : (s.takeOp).turns = s.turns := rfl
@[simp] theorem State.takeOp_pending : (s.takeOp).pending = pendingAfter s := rfl
@[simp] theorem State.takeOp_reads : (s.takeOp).reads = s.reads := rfl

/-! `State.submit`. -/

@[simp] theorem State.submit_busy (ops : List HostOp) : (s.submit ops).busy = s.busy := rfl
@[simp] theorem State.submit_done (ops : List HostOp) : (s.submit ops).done = s.done := rfl
@[simp] theorem State.submit_fvalid (ops : List HostOp) : (s.submit ops).fvalid = s.fvalid := rfl
@[simp] theorem State.submit_ovr (ops : List HostOp) : (s.submit ops).ovr = s.ovr := rfl
@[simp] theorem State.submit_err (ops : List HostOp) : (s.submit ops).err = s.err := rfl
@[simp] theorem State.submit_result (ops : List HostOp) : (s.submit ops).result = s.result := rfl
@[simp] theorem State.submit_srcRank (ops : List HostOp) : (s.submit ops).srcRank = s.srcRank := rfl
@[simp] theorem State.submit_srcDim0 (ops : List HostOp) : (s.submit ops).srcDim0 = s.srcDim0 := rfl
@[simp] theorem State.submit_srcDim1 (ops : List HostOp) : (s.submit ops).srcDim1 = s.srcDim1 := rfl
@[simp] theorem State.submit_srcDim2 (ops : List HostOp) : (s.submit ops).srcDim2 = s.srcDim2 := rfl
@[simp] theorem State.submit_srcLen (ops : List HostOp) : (s.submit ops).srcLen = s.srcLen := rfl
@[simp] theorem State.submit_finRLo (ops : List HostOp) : (s.submit ops).finRLo = s.finRLo := rfl
@[simp] theorem State.submit_finRHi (ops : List HostOp) : (s.submit ops).finRHi = s.finRHi := rfl
@[simp] theorem State.submit_finGLo (ops : List HostOp) : (s.submit ops).finGLo = s.finGLo := rfl
@[simp] theorem State.submit_finGHi (ops : List HostOp) : (s.submit ops).finGHi = s.finGHi := rfl
@[simp] theorem State.submit_finBLo (ops : List HostOp) : (s.submit ops).finBLo = s.finBLo := rfl
@[simp] theorem State.submit_finBHi (ops : List HostOp) : (s.submit ops).finBHi = s.finBHi := rfl
@[simp] theorem State.submit_keyIn (ops : List HostOp) : (s.submit ops).keyIn = s.keyIn := rfl
@[simp] theorem State.submit_pos (ops : List HostOp) : (s.submit ops).pos = s.pos := rfl
@[simp] theorem State.submit_jobEtype (ops : List HostOp) : (s.submit ops).jobEtype = s.jobEtype := rfl
@[simp] theorem State.submit_src (ops : List HostOp) : (s.submit ops).src = s.src := rfl
@[simp] theorem State.submit_fout (ops : List HostOp) : (s.submit ops).fout = s.fout := rfl
@[simp] theorem State.submit_resets (ops : List HostOp) : (s.submit ops).resets = s.resets := rfl
@[simp] theorem State.submit_draws (ops : List HostOp) : (s.submit ops).draws = s.draws := rfl
@[simp] theorem State.submit_turn (ops : List HostOp) : (s.submit ops).turn = s.turn := rfl
@[simp] theorem State.submit_turns (ops : List HostOp) : (s.submit ops).turns = s.turns := rfl
@[simp] theorem State.submit_pending (ops : List HostOp) : (s.submit ops).pending = s.pending ++ ops := rfl
@[simp] theorem State.submit_reads (ops : List HostOp) : (s.submit ops).reads = s.reads := rfl

/-! `State.doReset`. -/

@[simp] theorem State.doReset_busy : s.doReset.busy = false := rfl
@[simp] theorem State.doReset_done : s.doReset.done = false := rfl
@[simp] theorem State.doReset_fvalid : s.doReset.fvalid = false := rfl
@[simp] theorem State.doReset_ovr : s.doReset.ovr = false := rfl
@[simp] theorem State.doReset_err : s.doReset.err = 0#4 := rfl
@[simp] theorem State.doReset_result : s.doReset.result = 0#32 := rfl
@[simp] theorem State.doReset_srcRank : s.doReset.srcRank = 0#32 := rfl
@[simp] theorem State.doReset_srcDim0 : s.doReset.srcDim0 = 0#32 := rfl
@[simp] theorem State.doReset_srcDim1 : s.doReset.srcDim1 = 0#32 := rfl
@[simp] theorem State.doReset_srcDim2 : s.doReset.srcDim2 = 0#32 := rfl
@[simp] theorem State.doReset_srcLen : s.doReset.srcLen = 0#32 := rfl
@[simp] theorem State.doReset_finRLo : s.doReset.finRLo = 0#32 := rfl
@[simp] theorem State.doReset_finRHi : s.doReset.finRHi = 0#32 := rfl
@[simp] theorem State.doReset_finGLo : s.doReset.finGLo = 0#32 := rfl
@[simp] theorem State.doReset_finGHi : s.doReset.finGHi = 0#32 := rfl
@[simp] theorem State.doReset_finBLo : s.doReset.finBLo = 0#32 := rfl
@[simp] theorem State.doReset_finBHi : s.doReset.finBHi = 0#32 := rfl
@[simp] theorem State.doReset_keyIn : s.doReset.keyIn = 0#32 := rfl
@[simp] theorem State.doReset_pos : s.doReset.pos = 0#18 := rfl
@[simp] theorem State.doReset_jobEtype : s.doReset.jobEtype = .u8 := rfl
@[simp] theorem State.doReset_src : s.doReset.src = [] := rfl
@[simp] theorem State.doReset_fout : s.doReset.fout = [] := rfl
@[simp] theorem State.doReset_resets : s.doReset.resets = s.resets + 1 := rfl
@[simp] theorem State.doReset_draws : s.doReset.draws = s.draws := rfl
@[simp] theorem State.doReset_turn : s.doReset.turn = s.turn := rfl
@[simp] theorem State.doReset_turns : s.doReset.turns = s.turns := rfl
@[simp] theorem State.doReset_pending : s.doReset.pending = s.pending := rfl
@[simp] theorem State.doReset_reads : s.doReset.reads = s.reads := rfl

/-! `State.completeAtEnd`. -/

@[simp] theorem State.completeAtEnd_busy :
    s.completeAtEnd.busy = if s.pos.toNat = frameBytes then false else s.busy := by
  unfold State.completeAtEnd; split <;> rfl
@[simp] theorem State.completeAtEnd_done :
    s.completeAtEnd.done = if s.pos.toNat = frameBytes then true else s.done := by
  unfold State.completeAtEnd; split <;> rfl
@[simp] theorem State.completeAtEnd_fvalid :
    s.completeAtEnd.fvalid = if s.pos.toNat = frameBytes then true else s.fvalid := by
  unfold State.completeAtEnd; split <;> rfl
@[simp] theorem State.completeAtEnd_ovr : s.completeAtEnd.ovr = s.ovr := by
  unfold State.completeAtEnd; split <;> rfl
@[simp] theorem State.completeAtEnd_err : s.completeAtEnd.err = s.err := by
  unfold State.completeAtEnd; split <;> rfl
@[simp] theorem State.completeAtEnd_result : s.completeAtEnd.result = s.result := by
  unfold State.completeAtEnd; split <;> rfl
@[simp] theorem State.completeAtEnd_srcRank : s.completeAtEnd.srcRank = s.srcRank := by
  unfold State.completeAtEnd; split <;> rfl
@[simp] theorem State.completeAtEnd_srcDim0 : s.completeAtEnd.srcDim0 = s.srcDim0 := by
  unfold State.completeAtEnd; split <;> rfl
@[simp] theorem State.completeAtEnd_srcDim1 : s.completeAtEnd.srcDim1 = s.srcDim1 := by
  unfold State.completeAtEnd; split <;> rfl
@[simp] theorem State.completeAtEnd_srcDim2 : s.completeAtEnd.srcDim2 = s.srcDim2 := by
  unfold State.completeAtEnd; split <;> rfl
@[simp] theorem State.completeAtEnd_srcLen : s.completeAtEnd.srcLen = s.srcLen := by
  unfold State.completeAtEnd; split <;> rfl
@[simp] theorem State.completeAtEnd_finRLo : s.completeAtEnd.finRLo = s.finRLo := by
  unfold State.completeAtEnd; split <;> rfl
@[simp] theorem State.completeAtEnd_finRHi : s.completeAtEnd.finRHi = s.finRHi := by
  unfold State.completeAtEnd; split <;> rfl
@[simp] theorem State.completeAtEnd_finGLo : s.completeAtEnd.finGLo = s.finGLo := by
  unfold State.completeAtEnd; split <;> rfl
@[simp] theorem State.completeAtEnd_finGHi : s.completeAtEnd.finGHi = s.finGHi := by
  unfold State.completeAtEnd; split <;> rfl
@[simp] theorem State.completeAtEnd_finBLo : s.completeAtEnd.finBLo = s.finBLo := by
  unfold State.completeAtEnd; split <;> rfl
@[simp] theorem State.completeAtEnd_finBHi : s.completeAtEnd.finBHi = s.finBHi := by
  unfold State.completeAtEnd; split <;> rfl
@[simp] theorem State.completeAtEnd_keyIn : s.completeAtEnd.keyIn = s.keyIn := by
  unfold State.completeAtEnd; split <;> rfl
@[simp] theorem State.completeAtEnd_pos : s.completeAtEnd.pos = s.pos := by
  unfold State.completeAtEnd; split <;> rfl
@[simp] theorem State.completeAtEnd_jobEtype : s.completeAtEnd.jobEtype = s.jobEtype := by
  unfold State.completeAtEnd; split <;> rfl
@[simp] theorem State.completeAtEnd_src : s.completeAtEnd.src = s.src := by
  unfold State.completeAtEnd; split <;> rfl
@[simp] theorem State.completeAtEnd_fout : s.completeAtEnd.fout = s.fout := by
  unfold State.completeAtEnd; split <;> rfl
@[simp] theorem State.completeAtEnd_resets : s.completeAtEnd.resets = s.resets := by
  unfold State.completeAtEnd; split <;> rfl
@[simp] theorem State.completeAtEnd_draws : s.completeAtEnd.draws = s.draws := by
  unfold State.completeAtEnd; split <;> rfl
@[simp] theorem State.completeAtEnd_turn : s.completeAtEnd.turn = s.turn := by
  unfold State.completeAtEnd; split <;> rfl
@[simp] theorem State.completeAtEnd_turns : s.completeAtEnd.turns = s.turns := by
  unfold State.completeAtEnd; split <;> rfl
@[simp] theorem State.completeAtEnd_pending : s.completeAtEnd.pending = s.pending := by
  unfold State.completeAtEnd; split <;> rfl
@[simp] theorem State.completeAtEnd_reads : s.completeAtEnd.reads = s.reads := by
  unfold State.completeAtEnd; split <;> rfl

/-! `State.storeReg`. -/

@[simp] theorem State.storeReg_busy (r : Reg) (v : Word) : (s.storeReg r v).busy = s.busy := by cases r <;> rfl
@[simp] theorem State.storeReg_done (r : Reg) (v : Word) : (s.storeReg r v).done = s.done := by cases r <;> rfl
@[simp] theorem State.storeReg_fvalid (r : Reg) (v : Word) : (s.storeReg r v).fvalid = s.fvalid := by cases r <;> rfl
@[simp] theorem State.storeReg_ovr (r : Reg) (v : Word) : (s.storeReg r v).ovr = s.ovr := by cases r <;> rfl
@[simp] theorem State.storeReg_err (r : Reg) (v : Word) : (s.storeReg r v).err = s.err := by cases r <;> rfl
@[simp] theorem State.storeReg_result (r : Reg) (v : Word) : (s.storeReg r v).result = s.result := by cases r <;> rfl
@[simp] theorem State.storeReg_srcRank (r : Reg) (v : Word) :
    (s.storeReg r v).srcRank = if r = .srcRank then v else s.srcRank := by cases r <;> rfl
@[simp] theorem State.storeReg_srcDim0 (r : Reg) (v : Word) :
    (s.storeReg r v).srcDim0 = if r = .srcDim0 then v else s.srcDim0 := by cases r <;> rfl
@[simp] theorem State.storeReg_srcDim1 (r : Reg) (v : Word) :
    (s.storeReg r v).srcDim1 = if r = .srcDim1 then v else s.srcDim1 := by cases r <;> rfl
@[simp] theorem State.storeReg_srcDim2 (r : Reg) (v : Word) :
    (s.storeReg r v).srcDim2 = if r = .srcDim2 then v else s.srcDim2 := by cases r <;> rfl
@[simp] theorem State.storeReg_srcLen (r : Reg) (v : Word) :
    (s.storeReg r v).srcLen = if r = .srcLen then v else s.srcLen := by cases r <;> rfl
@[simp] theorem State.storeReg_finRLo (r : Reg) (v : Word) :
    (s.storeReg r v).finRLo = if r = .finRLo then v else s.finRLo := by cases r <;> rfl
@[simp] theorem State.storeReg_finRHi (r : Reg) (v : Word) :
    (s.storeReg r v).finRHi = if r = .finRHi then v else s.finRHi := by cases r <;> rfl
@[simp] theorem State.storeReg_finGLo (r : Reg) (v : Word) :
    (s.storeReg r v).finGLo = if r = .finGLo then v else s.finGLo := by cases r <;> rfl
@[simp] theorem State.storeReg_finGHi (r : Reg) (v : Word) :
    (s.storeReg r v).finGHi = if r = .finGHi then v else s.finGHi := by cases r <;> rfl
@[simp] theorem State.storeReg_finBLo (r : Reg) (v : Word) :
    (s.storeReg r v).finBLo = if r = .finBLo then v else s.finBLo := by cases r <;> rfl
@[simp] theorem State.storeReg_finBHi (r : Reg) (v : Word) :
    (s.storeReg r v).finBHi = if r = .finBHi then v else s.finBHi := by cases r <;> rfl
@[simp] theorem State.storeReg_keyIn (r : Reg) (v : Word) : (s.storeReg r v).keyIn = s.keyIn := by cases r <;> rfl
@[simp] theorem State.storeReg_pos (r : Reg) (v : Word) : (s.storeReg r v).pos = s.pos := by cases r <;> rfl
@[simp] theorem State.storeReg_jobEtype (r : Reg) (v : Word) : (s.storeReg r v).jobEtype = s.jobEtype := by cases r <;> rfl
@[simp] theorem State.storeReg_src (r : Reg) (v : Word) : (s.storeReg r v).src = s.src := by cases r <;> rfl
@[simp] theorem State.storeReg_fout (r : Reg) (v : Word) : (s.storeReg r v).fout = s.fout := by cases r <;> rfl
@[simp] theorem State.storeReg_resets (r : Reg) (v : Word) : (s.storeReg r v).resets = s.resets := by cases r <;> rfl
@[simp] theorem State.storeReg_draws (r : Reg) (v : Word) : (s.storeReg r v).draws = s.draws := by cases r <;> rfl
@[simp] theorem State.storeReg_turn (r : Reg) (v : Word) : (s.storeReg r v).turn = s.turn := by cases r <;> rfl
@[simp] theorem State.storeReg_turns (r : Reg) (v : Word) : (s.storeReg r v).turns = s.turns := by cases r <;> rfl
@[simp] theorem State.storeReg_pending (r : Reg) (v : Word) : (s.storeReg r v).pending = s.pending := by cases r <;> rfl
@[simp] theorem State.storeReg_reads (r : Reg) (v : Word) : (s.storeReg r v).reads = s.reads := by cases r <;> rfl

/-! Bytes and frame bytes depend on a few fields only. -/

theorem State.srcByte_congr {s t : State} (hsrc : t.src = s.src) (hres : t.resets = s.resets) (a : Nat) :
    t.srcByte a = s.srcByte a := by
  simp only [State.srcByte, hsrc, hres]

theorem State.foutByte_congr {s t : State} (hf : t.fout = s.fout) (hres : t.resets = s.resets) (a : Nat) :
    t.foutByte a = s.foutByte a := by
  simp only [State.foutByte, hf, hres]

theorem memReadSrc_congr {s t : State} (h : ∀ a, t.srcByte a = s.srcByte a) (a n : Nat) :
    memReadSrc t a n = memReadSrc s a n := by
  induction n generalizing a with
  | zero => rfl
  | succ n ih => simp only [memReadSrc, h, ih]

/-- The frame depends on JOB_ETYPE, SRC and the drawing number alone (42_frame_packer.md R180). -/
theorem frameByte_congr {s t : State} (hsrc : t.src = s.src) (hres : t.resets = s.resets) (hd : t.draws = s.draws)
    (hj : t.jobEtype = s.jobEtype) (P : Params) (p : Nat) : frameByte P t p = frameByte P s p := by
  have hb : ∀ a, t.srcByte a = s.srcByte a := State.srcByte_congr hsrc hres
  have hm : ∀ a n, memReadSrc t a n = memReadSrc s a n := memReadSrc_congr hb
  simp only [frameByte, payloadByte, hj, pixU8, pixF, floatElem, hb, hm, hd]

end Sys2Proof.Machine
end

