-- ==== Sys2Proof/Laws/Memory.lean ====
section
/-! SUPPORT. The byte memory: read after write, and the canonical form kept by every write. -/

namespace Sys2Proof.Machine

theorem Memory.read_write_same (m : Memory) (a : Nat) (b : Byte) :
    Memory.read (Memory.write m a b) a = some b := by
  induction m with
  | nil => simp [Memory.write, Memory.read]
  | cons c rest ih =>
    obtain ⟨k, c⟩ := c
    by_cases h1 : a < k
    · simp [Memory.write, Memory.read, h1]
    · by_cases h2 : a = k
      · simp [Memory.write, Memory.read, h2]
      · simp [Memory.write, Memory.read, h1, h2, ih, Ne.symm h2]

theorem Memory.read_write_other (m : Memory) {a x : Nat} (h : x ≠ a) (b : Byte) :
    Memory.read (Memory.write m a b) x = Memory.read m x := by
  induction m with
  | nil => simp [Memory.write, Memory.read, Ne.symm h]
  | cons c rest ih =>
    obtain ⟨k, c⟩ := c
    by_cases h1 : a < k
    · simp [Memory.write, Memory.read, h1, Ne.symm h]
    · by_cases h2 : a = k
      · subst h2; simp [Memory.write, Memory.read, Ne.symm h]
      · simp only [Memory.write, h1, h2, if_false, Memory.read, ih]

/-- Read after write, at every address. -/
theorem Memory.read_write (m : Memory) (a x : Nat) (b : Byte) :
    Memory.read (Memory.write m a b) x = if x = a then some b else Memory.read m x := by
  split
  · rename_i h; subst h; exact Memory.read_write_same m x b
  · rename_i h; exact Memory.read_write_other m h b

theorem Memory.mem_write {m : Memory} {a : Nat} {b : Byte} {c : Host.Cell} (h : c ∈ Memory.write m a b) :
    c = (a, b) ∨ c ∈ m := by
  induction m with
  | nil => simpa [Memory.write] using h
  | cons d rest ih =>
    obtain ⟨k, d⟩ := d
    simp only [Memory.write] at h
    split at h
    · simpa using h
    · split at h
      · rcases List.mem_cons.1 h with h | h
        · exact .inl h
        · exact .inr (List.mem_cons_of_mem _ h)
      · rcases List.mem_cons.1 h with h | h
        · exact .inr (h ▸ List.mem_cons_self)
        · rcases ih h with h | h
          · exact .inl h
          · exact .inr (List.mem_cons_of_mem _ h)

/-- Every write keeps the canonical form. -/
theorem Memory.wf_write {size : Nat} {m : Memory} (hm : Memory.wf size m) {a : Nat} (ha : a < size) (b : Byte) :
    Memory.wf size (Memory.write m a b) := by
  obtain ⟨hs, hb⟩ := hm
  refine ⟨?_, fun c hc => ?_⟩
  · induction m with
    | nil => simp [Memory.write]
    | cons d rest ih =>
      obtain ⟨k, d⟩ := d
      obtain ⟨hhead, htail⟩ := List.pairwise_cons.1 hs
      simp only [Memory.write]
      split
      · rename_i h1
        refine List.pairwise_cons.2 ⟨fun c hc => ?_, hs⟩
        rcases List.mem_cons.1 hc with rfl | hc
        · exact h1
        · exact Nat.lt_trans h1 (hhead c hc)
      · split
        · rename_i h2
          subst h2
          exact List.pairwise_cons.2 ⟨hhead, htail⟩
        · rename_i h1 h2
          refine List.pairwise_cons.2 ⟨fun c hc => ?_, ih htail (fun c hc => hb c (List.mem_cons_of_mem _ hc))⟩
          rcases Memory.mem_write hc with rfl | hc
          · show k < a; omega
          · exact hhead c hc
  · rcases Memory.mem_write hc with rfl | hc
    · exact ha
    · exact hb c hc

/-- The reset memories are in canonical form. -/
theorem Memory.wf_nil (size : Nat) : Memory.wf size [] := by
  exact ⟨List.Pairwise.nil, fun _ h => absurd h List.not_mem_nil⟩

theorem State.srcByte_putSrc (s : State) (a x : Nat) (b : Byte) :
    (s.putSrc a b).srcByte x = if x = a then b else s.srcByte x := by
  simp only [State.srcByte, State.putSrc_src, State.putSrc_resets, Memory.read_write]
  by_cases h : x = a <;> simp [h]

theorem State.foutByte_putFout (s : State) (a x : Nat) (b : Byte) :
    (s.putFout a b).foutByte x = if x = a then b else s.foutByte x := by
  simp only [State.foutByte, State.putFout_fout, State.putFout_resets, Memory.read_write]
  by_cases h : x = a <;> simp [h]

/-- SRC is large enough for every element a frame command reads, and no larger than its 32-bit addresses
(00_scope.md R10). -/
theorem srcBytes_bounds : 230400 * Config.floatFmt.bytes ≤ Config.srcBytes ∧ Config.srcBytes ≤ 4294967296 := by
  have h : Config.floatFmt.bytes ≤ 8 := by cases Config.floatFmt <;> decide
  simp only [Config.srcBytes]
  omega

theorem srcBytes_ge : 921600 ≤ Config.srcBytes := by
  have h := srcBytes_bounds.1
  have h4 : 4 ≤ Config.floatFmt.bytes := by cases Config.floatFmt <;> decide
  omega

end Sys2Proof.Machine
end

