-- ==== Sys2Proof/Laws/Ops.lean ====
section
/-! SUPPORT. One lemma per shared operation that says once everything it can do: the acceptance of a command, raising an
error, the FRAME acceptance, register and memory accesses, the sequencer step and the step of the machine. -/

namespace Sys2Proof.Machine

/-! Acceptance. -/

theorem acceptCommand_busy {s : State} (h : s.busy = true) (op : State → State) :
    acceptCommand op s = s.setOvr := by
  simp [acceptCommand, h]

theorem acceptCommand_idle {s : State} (h : s.busy = false) (op : State → State) :
    acceptCommand op s = op s.beginCommand := by
  simp [acceptCommand, h]

/-- What the acceptance of a command can do. -/
theorem acceptCommand_cases (op : State → State) (s : State) :
    (s.busy = true ∧ acceptCommand op s = s.setOvr) ∨
      (s.busy = false ∧ acceptCommand op s = op s.beginCommand) := by
  cases h : s.busy
  · exact .inr ⟨rfl, acceptCommand_idle h op⟩
  · exact .inl ⟨rfl, acceptCommand_busy h op⟩

/-- What the acceptance of a FRAME command can do (42_frame_packer.md R186). -/
theorem acceptFrame_cases (t : BitVec 4) (s : State) :
    (∃ e, acceptFrame t s = s.raise e) ∨
      (∃ j, acceptFrame t s = s.startJob j ∧
        ((j = .raw ∧ s.lengthValid = true) ∨ (j ≠ .raw ∧ s.shapeValid = true))) := by
  unfold acceptFrame
  split
  · split
    · exact .inr ⟨.u8, rfl, .inr ⟨by decide, ‹_›⟩⟩
    · exact .inl ⟨_, rfl⟩
  · split
    · exact .inr ⟨.float, rfl, .inr ⟨by decide, ‹_›⟩⟩
    · exact .inl ⟨_, rfl⟩
  · split
    · exact .inr ⟨.raw, rfl, .inl ⟨rfl, ‹_›⟩⟩
    · exact .inl ⟨_, rfl⟩
  · exact .inl ⟨_, rfl⟩

/-- All that a command word written to CMD can do to the state: it is turned away, it finishes without a result, it delivers
a result (CVTF also takes a drawing number), it raises an error, or it starts a job. -/
def CommandEffect (s t : State) : Prop :=
  (s.busy = true ∧ t = s.setOvr) ∨
    (s.busy = false ∧
      (t = s.beginCommand.finish ∨
        (∃ w, t = s.beginCommand.deliver w) ∨
        (∃ w, t = s.beginCommand.nextDraw.deliver w) ∨
        (∃ e, t = s.beginCommand.raise e) ∨
        ∃ j, t = s.beginCommand.startJob j ∧
          ((j = .raw ∧ s.lengthValid = true) ∨ (j ≠ .raw ∧ s.shapeValid = true))))

/-- A command has only these effects when its own part, after acceptance, has. -/
theorem acceptCommand_effect {op : State → State} {s : State}
    (h : s.busy = false → CommandEffect s (op s.beginCommand)) : CommandEffect s (acceptCommand op s) := by
  rcases acceptCommand_cases op s with ⟨hb, e⟩ | ⟨hb, e⟩
  · exact .inl ⟨hb, e⟩
  · exact e ▸ h hb

theorem acceptFrame_effect (t : BitVec 4) (s : State) : CommandEffect s (acceptCommand (acceptFrame t) s) :=
  acceptCommand_effect fun hb => .inr ⟨hb, .inr (.inr (.inr (acceptFrame_cases t s.beginCommand)))⟩

/-- An illegal command word raises an error or is turned away (60_exceptions.md R224). -/
theorem illegalCommand_effect (s : State) : CommandEffect s (illegalCommand s) :=
  acceptCommand_effect fun hb => .inr ⟨hb, .inr (.inr (.inr (.inl ⟨_, rfl⟩)))⟩

/-- What an instruction can do, whatever it is: KEYDEC stores its report, every other one has a command's effects. -/
theorem exec_cases (i : Instr) (s : State) :
    ∃ t, exec i s = .next t ∧ ((∃ rep, i = .keydec rep ∧ t = s.storeKeyIn rep) ∨ CommandEffect s t) := by
  cases i with
  | keydec rep => exact ⟨_, rfl, .inl ⟨rep, rfl, rfl⟩⟩
  | nop => exact ⟨_, rfl, .inr (acceptCommand_effect fun hb => .inr ⟨hb, .inl rfl⟩)⟩
  | cvt888 r g b => exact ⟨_, rfl, .inr (acceptCommand_effect fun hb => .inr ⟨hb, .inr (.inl ⟨_, rfl⟩)⟩)⟩
  | cvtf => exact ⟨_, rfl, .inr (acceptCommand_effect fun hb => .inr ⟨hb, .inr (.inr (.inl ⟨_, rfl⟩))⟩)⟩
  | pack565 r5 g6 b5 => exact ⟨_, rfl, .inr (acceptCommand_effect fun hb => .inr ⟨hb, .inr (.inl ⟨_, rfl⟩)⟩)⟩
  | frameU8 => exact ⟨_, rfl, .inr (acceptFrame_effect 0#4 s)⟩
  | frameF => exact ⟨_, rfl, .inr (acceptFrame_effect 1#4 s)⟩
  | frameRaw => exact ⟨_, rfl, .inr (acceptFrame_effect 2#4 s)⟩
  | frameT3 => exact ⟨_, rfl, .inr (acceptFrame_effect 3#4 s)⟩
  | frameT4 => exact ⟨_, rfl, .inr (acceptFrame_effect 4#4 s)⟩
  | frameT5 => exact ⟨_, rfl, .inr (acceptFrame_effect 5#4 s)⟩
  | frameT6 => exact ⟨_, rfl, .inr (acceptFrame_effect 6#4 s)⟩
  | frameT7 => exact ⟨_, rfl, .inr (acceptFrame_effect 7#4 s)⟩
  | frameT8 => exact ⟨_, rfl, .inr (acceptFrame_effect 8#4 s)⟩
  | frameT9 => exact ⟨_, rfl, .inr (acceptFrame_effect 9#4 s)⟩
  | frameT10 => exact ⟨_, rfl, .inr (acceptFrame_effect 10#4 s)⟩
  | frameT11 => exact ⟨_, rfl, .inr (acceptFrame_effect 11#4 s)⟩
  | frameT12 => exact ⟨_, rfl, .inr (acceptFrame_effect 12#4 s)⟩
  | frameT13 => exact ⟨_, rfl, .inr (acceptFrame_effect 13#4 s)⟩
  | frameT14 => exact ⟨_, rfl, .inr (acceptFrame_effect 14#4 s)⟩
  | frameT15 => exact ⟨_, rfl, .inr (acceptFrame_effect 15#4 s)⟩

/-! Register and memory accesses. -/

/-- What a register write that carries no instruction can do (40_command_interface.md R124). -/
theorem plainWrite_cases (r : Reg) (v : Word) (s : State) :
    (lockedWhenBusy r = true ∧ s.busy = true ∧ plainWrite r v s = s.setOvr) ∨
      ((lockedWhenBusy r = false ∨ s.busy = false) ∧ plainWrite r v s = s.storeReg r v) := by
  unfold plainWrite
  cases h1 : lockedWhenBusy r <;> cases h2 : s.busy <;> simp

/-- What a byte write to SRC can do (20_memory.md R66, R69). -/
theorem srcWrite_cases (a : BitVec 32) (b : Byte) (s : State) :
    (s.busy = true ∧ srcWrite a b s = s.setOvr) ∨
      (s.busy = false ∧ a.toNat < Config.srcBytes ∧ srcWrite a b s = s.putSrc a.toNat b) ∨
      (s.busy = false ∧ Config.srcBytes ≤ a.toNat ∧ srcWrite a b s = s) := by
  unfold srcWrite
  cases h : s.busy
  · by_cases ha : a.toNat < Config.srcBytes
    · simp [ha]
    · simp [ha, Nat.le_of_not_lt ha]
  · simp

/-- The decoder at each register index: a command at 0, a report at 14, no instruction elsewhere. -/
theorem decodeWrite_cmd (v : Word) : decodeWrite 0#4 v = some (decodeCmd v) := rfl

theorem decodeWrite_keyIn (v : Word) : decodeWrite 14#4 v = some (.instr (.keydec (v.extractLsb' 0 16))) := rfl

theorem decodeWrite_none {i : BitVec 4} (h0 : i ≠ 0#4) (h14 : i ≠ 14#4) (v : Word) : decodeWrite i v = none := by
  simp [decodeWrite, h0, h14]

/-- What a host access can do: read and record, run an instruction, be an illegal command, write a plain register, write
SRC, or reset. -/
theorem performAccess_cases (a : HostAccess) (s : State) :
    ∃ t, performAccess a s = .next t ∧
      ((∃ r, t = s.record r) ∨
        (∃ i v ins, a = .regWr i v ∧ decodeWrite i v = some (.instr ins) ∧ exec ins s = .next t) ∨
        (∃ v why, a = .regWr 0#4 v ∧ decodeCmd v = .illegal why ∧ t = illegalCommand s) ∨
        (∃ i v, a = .regWr i v ∧ i ≠ 0#4 ∧ i ≠ 14#4 ∧ t = plainWrite (regOfIndex i) v s) ∨
        (∃ ad b, a = .srcWr ad b ∧ t = srcWrite ad b s) ∨
        (a = .reset ∧ t = s.doReset)) := by
  cases a with
  | regRd i => exact ⟨_, rfl, .inl ⟨_, rfl⟩⟩
  | srcRd ad => exact ⟨_, rfl, .inl ⟨_, rfl⟩⟩
  | foutRd ad => exact ⟨_, rfl, .inl ⟨_, rfl⟩⟩
  | srcWr ad b => exact ⟨_, rfl, .inr (.inr (.inr (.inr (.inl ⟨ad, b, rfl, rfl⟩))))⟩
  | reset => exact ⟨_, rfl, .inr (.inr (.inr (.inr (.inr ⟨rfl, rfl⟩))))⟩
  | regWr i v =>
    show ∃ t, regWrite i v s = .next t ∧ _
    unfold regWrite
    split
    · rename_i ins hd
      obtain ⟨t, he, -⟩ := exec_cases ins s
      exact ⟨t, he, .inr (.inl ⟨i, v, ins, rfl, hd, he⟩)⟩
    · rename_i why hd
      have hi : i = 0#4 := by
        by_contra h0
        by_cases h14 : i = 14#4
        · subst h14; rw [decodeWrite_keyIn] at hd; simp at hd
        · rw [decodeWrite_none h0 h14] at hd; simp at hd
      subst hi
      rw [decodeWrite_cmd] at hd
      exact ⟨_, rfl, .inr (.inr (.inl ⟨v, why, rfl, by simpa using hd, rfl⟩))⟩
    · rename_i hd
      refine ⟨_, rfl, .inr (.inr (.inr (.inl ⟨i, v, rfl, ?_, ?_, rfl⟩)))⟩
      · rintro rfl; rw [decodeWrite_cmd] at hd; simp at hd
      · rintro rfl; rw [decodeWrite_keyIn] at hd; simp at hd

/-! The step. -/

@[simp] theorem accessOf_access (a : HostAccess) : accessOf (.access a) = a := rfl
@[simp] theorem accessOf_wait : accessOf .wait = .regRd 1#4 := rfl

/-- A plain access leaves the list as it is performed. -/
theorem pendingAfter_access {s : State} {a : HostAccess} {rest : List HostOp} (h : s.pending = .access a :: rest) :
    pendingAfter s = rest := by
  simp [pendingAfter, h, opRepeats]

/-- `wait` reads bit 0 of STATUS, which is BUSY (30_encoding.md R107, 10_state.md R24). -/
theorem waitAgain_statusWord (s : State) : waitAgain (statusWord s) = s.busy := by
  simp only [waitAgain, statusWord, flagAt]
  cases s.busy <;> cases s.done <;> cases s.fvalid <;> cases s.ovr <;> simp

/-- `wait` stays in the list exactly while BUSY = 1 (30_encoding.md R107). -/
theorem pendingAfter_wait {s : State} {rest : List HostOp} (h : s.pending = .wait :: rest) :
    pendingAfter s = if s.busy = true then .wait :: rest else rest := by
  have hw : opRepeats .wait s = s.busy := waitAgain_statusWord s
  simp only [pendingAfter, h, hw]

/-- What one step can do: nothing when neither agent is enabled, the access of the host's oldest operation, or one sequencer
step. -/
theorem step_cases (s : State) :
    (nextMover s = none ∧ s.pending = [] ∧ s.busy = false ∧ step s = .next s) ∨
      (∃ op rest, nextMover s = some .host ∧ s.pending = op :: rest ∧
        step s = performAccess (accessOf op) s.takeOp.drawTurn) ∨
      (nextMover s = some .sequencer ∧ s.busy = true ∧ step s = .next (seqStep Config.params s.drawTurn)) := by
  have hmove : step s = move s := rfl
  rw [hmove, move]
  cases hp : s.pending with
  | nil =>
    cases hb : s.busy
    · have hn : nextMover s = none := by simp [nextMover, hp, hb]
      exact .inl ⟨hn, rfl, rfl, by simp [hn]⟩
    · have hn : nextMover s = some .sequencer := by simp [nextMover, hp, hb]
      exact .inr (.inr ⟨hn, rfl, by simp [hn, sequencerMove]⟩)
  | cons op rest =>
    cases hb : s.busy
    · have hn : nextMover s = some .host := by simp [nextMover, hp, hb]
      exact .inr (.inl ⟨op, rest, hn, rfl, by simp [hn, hostMove, hp]⟩)
    · have hn : nextMover s = some s.turn := by simp [nextMover, hp, hb]
      cases ht : s.turn
      · rw [ht] at hn
        exact .inr (.inl ⟨op, rest, hn, rfl, by simp [hn, hostMove, hp]⟩)
      · rw [ht] at hn
        exact .inr (.inr ⟨hn, rfl, by simp [hn, sequencerMove]⟩)

/-! The sequencer step, field by field (42_frame_packer.md R181). -/

@[simp] theorem seqStep_fout (P : Params) (s : State) :
    (seqStep P s).fout = Memory.write s.fout s.pos.toNat (frameByte P s s.pos.toNat) := by simp [seqStep]
@[simp] theorem seqStep_pos (P : Params) (s : State) : (seqStep P s).pos = s.pos + 1#18 := by simp [seqStep]
@[simp] theorem seqStep_src (P : Params) (s : State) : (seqStep P s).src = s.src := by simp [seqStep]
@[simp] theorem seqStep_resets (P : Params) (s : State) : (seqStep P s).resets = s.resets := by simp [seqStep]
@[simp] theorem seqStep_draws (P : Params) (s : State) : (seqStep P s).draws = s.draws := by simp [seqStep]
@[simp] theorem seqStep_jobEtype (P : Params) (s : State) : (seqStep P s).jobEtype = s.jobEtype := by simp [seqStep]
@[simp] theorem seqStep_pending (P : Params) (s : State) : (seqStep P s).pending = s.pending := by simp [seqStep]
@[simp] theorem seqStep_busy (P : Params) (s : State) :
    (seqStep P s).busy = if (s.pos + 1#18).toNat = frameBytes then false else s.busy := by simp [seqStep]
@[simp] theorem seqStep_done (P : Params) (s : State) :
    (seqStep P s).done = if (s.pos + 1#18).toNat = frameBytes then true else s.done := by simp [seqStep]
@[simp] theorem seqStep_fvalid (P : Params) (s : State) :
    (seqStep P s).fvalid = if (s.pos + 1#18).toNat = frameBytes then true else s.fvalid := by simp [seqStep]

/-- Every frame byte is unchanged by a sequencer step: the job's inputs are fixed (20_memory.md R77). -/
theorem seqStep_frameByte (P Q : Params) (s : State) (p : Nat) : frameByte Q (seqStep P s) p = frameByte Q s p :=
  frameByte_congr (seqStep_src P s) (seqStep_resets P s) (seqStep_draws P s) (seqStep_jobEtype P s) Q p

end Sys2Proof.Machine
end

