-- ==== Sys2Proof/Laws/PerInstr.lean ====
section
/-! SUPPORT. Facts about every instruction as syntax, one lemma per constructor: its word carries the fixed bits of its row of
spec/opcode_table.json (match and mask). KEYDEC's row fixes no bit. -/

namespace Sys2Proof.Laws.TableRow

/-- The `match` of an instruction's row. -/
def matchBits : Instr → Word
  | .nop => 0x00000000#32
  | .cvt888 _ _ _ => 0x01000000#32
  | .cvtf => 0x02000000#32
  | .pack565 _ _ _ => 0x03000000#32
  | .frameU8 => 0x10000000#32
  | .frameF => 0x10000001#32
  | .frameRaw => 0x10000002#32
  | .frameT3 => 0x10000003#32
  | .frameT4 => 0x10000004#32
  | .frameT5 => 0x10000005#32
  | .frameT6 => 0x10000006#32
  | .frameT7 => 0x10000007#32
  | .frameT8 => 0x10000008#32
  | .frameT9 => 0x10000009#32
  | .frameT10 => 0x1000000A#32
  | .frameT11 => 0x1000000B#32
  | .frameT12 => 0x1000000C#32
  | .frameT13 => 0x1000000D#32
  | .frameT14 => 0x1000000E#32
  | .frameT15 => 0x1000000F#32
  | .keydec _ => 0x00000000#32

/-- The `mask` of an instruction's row. -/
def maskBits : Instr → Word
  | .nop => 0xFFFFFFFF#32
  | .cvt888 _ _ _ => 0xFF000000#32
  | .cvtf => 0xFFFFFFFF#32
  | .pack565 _ _ _ => 0xFFE0C0E0#32
  | .frameU8 => 0xFFFFFFFF#32
  | .frameF => 0xFFFFFFFF#32
  | .frameRaw => 0xFFFFFFFF#32
  | .frameT3 => 0xFFFFFFFF#32
  | .frameT4 => 0xFFFFFFFF#32
  | .frameT5 => 0xFFFFFFFF#32
  | .frameT6 => 0xFFFFFFFF#32
  | .frameT7 => 0xFFFFFFFF#32
  | .frameT8 => 0xFFFFFFFF#32
  | .frameT9 => 0xFFFFFFFF#32
  | .frameT10 => 0xFFFFFFFF#32
  | .frameT11 => 0xFFFFFFFF#32
  | .frameT12 => 0xFFFFFFFF#32
  | .frameT13 => 0xFFFFFFFF#32
  | .frameT14 => 0xFFFFFFFF#32
  | .frameT15 => 0xFFFFFFFF#32
  | .keydec _ => 0x00000000#32

/-- The instruction's word agrees with its row's `match` on the bits of its `mask`. -/
def Statement (i : Instr) : Prop := encodeWord i &&& maskBits i = matchBits i

theorem nop : Statement .nop := by
  show _ = _
  decide

theorem cvt888 (r g b : Byte) : Statement (.cvt888 r g b) := by
  simp only [Statement, encodeWord, maskBits, matchBits]
  ext i hi
  interval_cases i <;> simp

theorem cvtf : Statement .cvtf := by
  show _ = _
  decide

theorem pack565 (r5 : BitVec 5) (g6 : BitVec 6) (b5 : BitVec 5) : Statement (.pack565 r5 g6 b5) := by
  simp only [Statement, encodeWord, maskBits, matchBits]
  ext i hi
  interval_cases i <;> simp

theorem frameU8 : Statement .frameU8 := by
  show _ = _
  decide

theorem frameF : Statement .frameF := by
  show _ = _
  decide

theorem frameRaw : Statement .frameRaw := by
  show _ = _
  decide

theorem frameT3 : Statement .frameT3 := by
  show _ = _
  decide

theorem frameT4 : Statement .frameT4 := by
  show _ = _
  decide

theorem frameT5 : Statement .frameT5 := by
  show _ = _
  decide

theorem frameT6 : Statement .frameT6 := by
  show _ = _
  decide

theorem frameT7 : Statement .frameT7 := by
  show _ = _
  decide

theorem frameT8 : Statement .frameT8 := by
  show _ = _
  decide

theorem frameT9 : Statement .frameT9 := by
  show _ = _
  decide

theorem frameT10 : Statement .frameT10 := by
  show _ = _
  decide

theorem frameT11 : Statement .frameT11 := by
  show _ = _
  decide

theorem frameT12 : Statement .frameT12 := by
  show _ = _
  decide

theorem frameT13 : Statement .frameT13 := by
  show _ = _
  decide

theorem frameT14 : Statement .frameT14 := by
  show _ = _
  decide

theorem frameT15 : Statement .frameT15 := by
  show _ = _
  decide

theorem keydec (rep : Half) : Statement (.keydec rep) := by
  simp [Statement, maskBits, matchBits]

end Sys2Proof.Laws.TableRow
end

