-- ==== Sys2Proof/Laws/Schedule.lean ====
section
/-! SUPPORT. The schedule of turns, one turn at a time: what each turn of a schedule is and where the next one stands. -/

namespace Sys2Proof

variable {gaps : Nat → Nat} {n : Nat}

@[simp] theorem gapAt_zero : gapAt gaps 0 = (0, gaps 0) := rfl

/-- After a turn of the sequencer the next gap begins. -/
theorem gapAt_succ_of_zero (h : (gapAt gaps n).2 = 0) :
    gapAt gaps (n + 1) = ((gapAt gaps n).1 + 1, gaps ((gapAt gaps n).1 + 1)) := by
  rcases hg : gapAt gaps n with ⟨k, left⟩
  rw [hg] at h
  subst h
  simp [gapAt, hg]

/-- A turn of the host leaves one turn fewer in the gap. -/
theorem gapAt_succ_of_pos {left : Nat} (h : (gapAt gaps n).2 = left + 1) :
    gapAt gaps (n + 1) = ((gapAt gaps n).1, left) := by
  rcases hg : gapAt gaps n with ⟨k, r⟩
  rw [hg] at h
  subst h
  simp [gapAt, hg]

/-- The sequencer has the turn exactly when no turn of the host is left in the gap. -/
theorem turnOf_eq_sequencer : turnOf gaps n = .sequencer ↔ (gapAt gaps n).2 = 0 := by
  rcases hg : gapAt gaps n with ⟨k, _ | left⟩ <;> simp [turnOf, hg]

theorem turnOf_eq_host : turnOf gaps n = .host ↔ (gapAt gaps n).2 ≠ 0 := by
  rcases hg : gapAt gaps n with ⟨k, _ | left⟩ <;> simp [turnOf, hg]

end Sys2Proof
end

