-- ==== Sys2Proof/Tests/Slice0.lean ====
section
/-! SUPPORT. The model's own tests: the well-formedness smoke, one written-out word per constructor, at most two small tests
per instruction with results from 95_test_vectors.md, and a witness for the hypotheses of every statement that has any. -/

namespace Sys2Proof.Tests

open Sys2Proof.Machine

/-! Helpers. -/

/-- The state an outcome gives, or the given one where it stops. -/
def after (o : Host.Outcome State Fault Refusal) (s : State) : State :=
  match o with
  | .next t => t
  | .fault _ => s
  | .refused _ => s

/-- What the RESULT register holds after an instruction run on the reset state. -/
def resultOf (i : Instr) : Word := (after (exec i State.reset) State.reset).result

/-- The STATUS word after an instruction run in a state. -/
def statusOf (i : Instr) (s : State) : Word := statusWord (after (exec i s) s)

/-- The reset state with a valid image descriptor. -/
def shaped : State :=
  { State.reset with srcRank := 3#32, srcDim0 := 320#32, srcDim1 := 240#32, srcDim2 := 3#32 }

/-- The reset state with a valid raw descriptor. -/
def rawReady : State := { State.reset with srcLen := 153600#32 }

/-- A U8 job just accepted. -/
def running : State := { shaped with busy := true, draws := 1 }

/-- A job before its last byte. -/
def lastByte : State := { running with pos := 153855#18 }

/-- The reset state with one access pending. -/
def withAccess (a : HostAccess) : State := { State.reset with pending := [.access a] }

/-- The state in which a script's operations are pending. -/
def scripted (lines : List ScriptLine) : State :=
  State.reset.submit ((expandScript .binary64 lines).getD [])

/-- FIN registers that hold a NaN in either format. -/
def nanFin : State :=
  { State.reset with
    finRHi := 0x7FF80000#32, finRLo := 0x7FC00000#32, finGHi := 0x7FF80000#32, finGLo := 0x7FC00000#32
    finBHi := 0x7FF80000#32, finBLo := 0x7FC00000#32 }

/-! Well-formedness: for each check, an ill-formed script line is refused, and its well-formed neighbour is not
(30_encoding.md R105 to R107). -/

theorem test_refuses_wr_value : (ScriptLine.wr .srcRank 4294967296).operandsOk = false := by decide
theorem test_refuses_swr_address : (ScriptLine.swr 4294967296 0).operandsOk = false := by decide
theorem test_refuses_swr_byte : (ScriptLine.swr 0 256).operandsOk = false := by decide
theorem test_refuses_srd_address : (ScriptLine.srd 4294967296).operandsOk = false := by decide
theorem test_refuses_frd_address : (ScriptLine.frd 4294967296).operandsOk = false := by decide
theorem test_refuses_cvt888_red : (ScriptLine.cvt888 256 0 0).operandsOk = false := by decide
theorem test_refuses_cvt888_green : (ScriptLine.cvt888 0 256 0).operandsOk = false := by decide
theorem test_refuses_cvt888_blue : (ScriptLine.cvt888 0 0 256).operandsOk = false := by decide
theorem test_refuses_pack565_red : (ScriptLine.pack565 32 0 0).operandsOk = false := by decide
theorem test_refuses_pack565_green : (ScriptLine.pack565 0 64 0).operandsOk = false := by decide
theorem test_refuses_pack565_blue : (ScriptLine.pack565 0 0 32).operandsOk = false := by decide
theorem test_refuses_frame_type : (ScriptLine.frameT 16).operandsOk = false := by decide
theorem test_refuses_keydec_report : (ScriptLine.keydec 65536).operandsOk = false := by decide
theorem test_refuses_fin_denominator : (ScriptLine.fin .red (.num false 1 0)).operandsOk = false := by decide
theorem test_refuses_sfill_range : (ScriptLine.sfill 4294967295 2 0).operandsOk = false := by decide
theorem test_refuses_sfill_byte : (ScriptLine.sfill 0 1 256).operandsOk = false := by decide
theorem test_accepts_largest_operands :
    (ScriptLine.pack565 31 63 31).operandsOk = true ∧
    (ScriptLine.cvt888 255 255 255).operandsOk = true ∧
    (ScriptLine.fin .red (.num true 1 2)).operandsOk = true := by decide
theorem test_refused_line_issues_nothing : expandLine .binary32 (.pack565 32 0 0) = none := by decide

/-! Decoding: a word for each constructor, written out from its encoding table (30_encoding.md R95 to R100). -/

theorem test_decode_nop : decodeCmd 0b00000000_000000000000000000000000#32 = .instr .nop := by decide
theorem test_decode_cvt888 :
    decodeCmd 0b00000001_00010010_00110100_01010110#32 = .instr (.cvt888 0x12#8 0x34#8 0x56#8) := by decide
theorem test_decode_cvtf : decodeCmd 0b00000010_000000000000000000000000#32 = .instr .cvtf := by decide
theorem test_decode_pack565 :
    decodeCmd 0b00000011_000_10001_00_100001_000_00111#32 = .instr (.pack565 17#5 33#6 7#5) := by decide
theorem test_decode_frameU8 : decodeCmd 0b00010000_00000000000000000000_0000#32 = .instr .frameU8 := by decide
theorem test_decode_frameF : decodeCmd 0b00010000_00000000000000000000_0001#32 = .instr .frameF := by decide
theorem test_decode_frameRaw : decodeCmd 0b00010000_00000000000000000000_0010#32 = .instr .frameRaw := by decide
theorem test_decode_frameT3 : decodeCmd 0b00010000_00000000000000000000_0011#32 = .instr .frameT3 := by decide
theorem test_decode_frameT4 : decodeCmd 0b00010000_00000000000000000000_0100#32 = .instr .frameT4 := by decide
theorem test_decode_frameT5 : decodeCmd 0b00010000_00000000000000000000_0101#32 = .instr .frameT5 := by decide
theorem test_decode_frameT6 : decodeCmd 0b00010000_00000000000000000000_0110#32 = .instr .frameT6 := by decide
theorem test_decode_frameT7 : decodeCmd 0b00010000_00000000000000000000_0111#32 = .instr .frameT7 := by decide
theorem test_decode_frameT8 : decodeCmd 0b00010000_00000000000000000000_1000#32 = .instr .frameT8 := by decide
theorem test_decode_frameT9 : decodeCmd 0b00010000_00000000000000000000_1001#32 = .instr .frameT9 := by decide
theorem test_decode_frameT10 : decodeCmd 0b00010000_00000000000000000000_1010#32 = .instr .frameT10 := by decide
theorem test_decode_frameT11 : decodeCmd 0b00010000_00000000000000000000_1011#32 = .instr .frameT11 := by decide
theorem test_decode_frameT12 : decodeCmd 0b00010000_00000000000000000000_1100#32 = .instr .frameT12 := by decide
theorem test_decode_frameT13 : decodeCmd 0b00010000_00000000000000000000_1101#32 = .instr .frameT13 := by decide
theorem test_decode_frameT14 : decodeCmd 0b00010000_00000000000000000000_1110#32 = .instr .frameT14 := by decide
theorem test_decode_frameT15 : decodeCmd 0b00010000_00000000000000000000_1111#32 = .instr .frameT15 := by decide
theorem test_decode_keydec :
    decodeWrite 14#4 0b1010101111001101_1000000100000000#32 = some (.instr (.keydec 0x8100#16)) := by decide
theorem test_decode_reserved_bits :
    decodeCmd 0x00000001#32 = .illegal (.reservedBits 0#8) ∧ decodeCmd 0x02000001#32 = .illegal (.reservedBits 2#8) ∧
    decodeCmd 0x03000020#32 = .illegal (.reservedBits 3#8) ∧ decodeCmd 0x10800000#32 = .illegal (.reservedBits 0x10#8) ∧
    decodeCmd 0xFF000000#32 = .illegal (.unassignedOpcode 0xFF#8) := by decide

/-! Meanings, against 95_test_vectors.md and the rules' own examples. -/

/-- 40_command_interface.md R126, both examples. -/
theorem test_nop_clears_error : statusOf .nop { State.reset with err := 4#4, done := true } = 0x00000002#32 := by decide
theorem test_nop_keeps_fvalid :
    statusOf .nop { State.reset with done := true, fvalid := true, ovr := true } = 0x00000006#32 := by decide
/-- 95_test_vectors.md section 2.1. -/
theorem test_cvt888_fields : resultOf (.cvt888 0x12#8 0x34#8 0x56#8) = 0x11AA#32 := by decide
theorem test_cvt888_truncates : resultOf (.cvt888 247#8 251#8 247#8) = 0xF7DE#32 := by decide
/-- 95_test_vectors.md S16 and 41_quantizer.md R149. -/
theorem test_pack565_example : resultOf (.pack565 1#5 2#6 3#5) = 0x0843#32 := by decide
theorem test_pack565_top_bits : resultOf (.pack565 16#5 32#6 16#5) = 0x8410#32 := by decide
/-- 95_test_vectors.md section 2.2: the rounded product, not the exact one, is floored. -/
theorem test_float_rounds_before_floor :
    quantF .binary64 31 (decodeFloat .binary64 0x3FA0842108421084#64) = some 1 ∧
    quantF .binary64 63 (decodeFloat .binary64 0x3FA0842108421084#64) = some 2 ∧
    quantF .binary64 63 (decodeFloat .binary64 0x3F90410410410410#64) = some 1 ∧
    quantF .binary64 31 (decodeFloat .binary64 0x3F90410410410410#64) = some 0 := by decide +kernel
/-- 95_test_vectors.md S5, S7: 1.0, 1.5, -0.5 and 0.5 in binary32. -/
theorem test_float_clamps :
    quantF .binary32 31 (decodeFloat .binary32 0x3F800000#64) = some 31 ∧
    quantF .binary32 31 (decodeFloat .binary32 0x3FC00000#64) = some 31 ∧
    quantF .binary32 31 (decodeFloat .binary32 0xBF000000#64) = some 0 ∧
    quantF .binary32 63 (decodeFloat .binary32 0x3F000000#64) = some 31 := by decide +kernel
/-- 95_test_vectors.md S5 in both formats: CVTF of (1.0, 1.0, 1.0). -/
theorem test_cvtf_one :
    qfp .binary64 0 0 (decodeFloat .binary64 (finBits .binary64 0x3FF00000#32 0#32))
      (decodeFloat .binary64 (finBits .binary64 0x3FF00000#32 0#32))
      (decodeFloat .binary64 (finBits .binary64 0x3FF00000#32 0#32)) = 0xFFFF#16 ∧
    qfp .binary32 0 0 (decodeFloat .binary32 (finBits .binary32 0xFFFFFFFF#32 0x3F800000#32))
      (decodeFloat .binary32 (finBits .binary32 0#32 0x3F800000#32))
      (decodeFloat .binary32 (finBits .binary32 0#32 0x3F800000#32)) = 0xFFFF#16 := by decide +kernel
/-- 41_quantizer.md R148: the zero FIN registers give 0x0000 in both formats. -/
theorem test_cvtf_zero (fmt : FloatFmt) :
    qfp fmt 0 0 (State.reset.finRed fmt) (State.reset.finGreen fmt) (State.reset.finBlue fmt) = 0#16 := by
  cases fmt <;> decide +kernel
/-- 95_test_vectors.md S8 and 60_exceptions.md R220. -/
theorem test_frame_raw_length :
    statusOf .frameRaw { State.reset with srcLen := 153599#32 } = 0x00000022#32 ∧
    statusOf .frameRaw { State.reset with srcLen := 153601#32 } = 0x00000022#32 := by decide
theorem test_frame_raw_starts : statusOf .frameRaw rawReady = 0x00000001#32 := by decide
/-- 60_exceptions.md R221: a transposed buffer. -/
theorem test_frame_u8_transposed :
    statusOf .frameU8 { shaped with srcDim0 := 240#32, srcDim1 := 320#32 } = 0x00000012#32 := by decide
theorem test_frame_u8_starts : statusOf .frameU8 shaped = 0x00000001#32 := by decide
theorem test_frame_f_starts : (after (exec .frameF shaped) shaped).jobEtype = .float := by decide
theorem test_frame_f_ignores_length : statusOf .frameF { shaped with srcLen := 5#32 } = 0x00000001#32 := by decide
/-- 60_exceptions.md R223, whatever the descriptor holds. -/
theorem test_frame_t3_unsupported : statusOf .frameT3 shaped = 0x00000032#32 := by decide
theorem test_frame_t15_unsupported : statusOf .frameT15 State.reset = 0x00000032#32 := by decide
/-- 43_key_decoder.md R202 and 95_test_vectors.md S13. -/
theorem test_keydec_example :
    (after (exec (.keydec 0x8100#16) running) running).readReg .keyOut = 0x00008100#32 := by decide
theorem test_keydec_all_ones :
    (after (exec (.keydec 0xFFFF#16) State.reset) State.reset).readReg .keyOut = 0x0000FF00#32 := by decide
/-- 60_exceptions.md R224. -/
theorem test_illegal_command :
    statusWord (after (performAccess (.regWr 0#4 0x03200000#32) State.reset) State.reset) = 0x00000042#32 := by decide
/-- 42_frame_packer.md R172 to R174. -/
theorem test_frame_bytes (P : Params) :
    frameByte P running 3 = 0x58#8 ∧ frameByte P running 15 = 0x0F#8 ∧ frameByte P running 16 = 16#8 ∧
    frameByte P running 255 = 255#8 ∧ frameByte P running 256 = 0#8 ∧ frameByte P running 511 = 255#8 := by
  refine ⟨?_, ?_, ?_, ?_, ?_, ?_⟩ <;> rfl
/-- 42_frame_packer.md R183, the example: one red pixel, LE, A_OUTER. -/
theorem test_u8_payload_example :
    let s : State := { running with src := [(0, 0xFF#8), (1, 0x00#8), (2, 0x00#8)] }
    let P : Params := { floatFmt := .binary32, payloadEndian := .le, scanOrder := .aOuter, srcFloatOrder := .le }
    frameByte P s 512 = 0x00#8 ∧ frameByte P s 513 = 0xF8#8 := by decide

/-- 95_test_vectors.md section 2.3 (encodings named there) and section 3 (0.5, 1.5, -0.5 in binary64). -/
theorem test_enc64 :
    encFloat .binary64 (floatOf .binary64 (.num false 1 2)) = 0x3FE0000000000000#64 ∧
    encFloat .binary64 (floatOf .binary64 (.num false 3 2)) = 0x3FF8000000000000#64 ∧
    encFloat .binary64 (floatOf .binary64 (.num true 1 2)) = 0xBFE0000000000000#64 ∧
    encFloat .binary64 (floatOf .binary64 (.num false 1 31)) = 0x3FA0842108421084#64 := by decide +kernel
theorem test_enc32_rounds_to_nearest :
    encFloat .binary32 (floatOf .binary32 (.num false 1 10)) = 0x3DCCCCCD#64 ∧
    encFloat .binary32 (floatOf .binary32 (.num false 1 3)) = 0x3EAAAAAB#64 ∧
    encFloat .binary32 (floatOf .binary32 (.num false 999 1000)) = 0x3F7FBE77#64 := by decide +kernel
/-- 95_test_vectors.md section 3: `fin.b -0.5` writes FIN_B_LO and then FIN_B_HI. -/
theorem test_fin_writes : expandLine .binary64 (.fin .blue (.num true 1 2)) =
    some [.access (.regWr 12#4 0x00000000#32), .access (.regWr 13#4 0xBFE00000#32)] := by decide +kernel
/-- 30_encoding.md R107: `wait` reads once and goes on with BUSY = 0, and stays with BUSY = 1. -/
theorem test_wait_ends_when_idle :
    (after (step (scripted [.wait, .nop])) State.reset).pending = [.access (.regWr 0#4 0#32)] := rfl
theorem test_wait_repeats_while_busy :
    let s : State := { running with pending := [.wait, .access (.foutRd 0#32)], turn := .host }
    (after (step s) s).pending = [.wait, .access (.foutRd 0#32)] ∧
    (after (step s) s).reads = [.reg 1#4 0x00000001#32] := ⟨rfl, rfl⟩

/-! A word written where the next instruction comes from is the instruction that runs. -/

theorem test_fetch_cvt888 :
    decodeTableWord 32 0x01FF8000 = some (.cvt888 255#8 128#8 0#8) ∧
    (after (step (State.reset.withFetchWord 32 0x01FF8000)) State.reset).result = 0x0000FC00#32 := by
  refine ⟨by decide, rfl⟩
theorem test_fetch_running :
    (after (step (running.withFetchWord 32 0)) running).ovr = true := rfl

/-! The invariant holds of a running job, so the statements over invariant states speak of running jobs too. -/

theorem test_running_has_invariant : Inv running where
  status := by refine ⟨fun _ => ⟨rfl, rfl, rfl⟩, fun h => absurd rfl h, by decide⟩
  pos := ⟨by decide, fun _ => by decide⟩
  halves := ⟨by decide, by decide⟩
  memory := ⟨Memory.wf_nil _, Memory.wf_nil _⟩
  descriptor := fun _ => (by decide : running.shapeValid = true)
  progress := fun _ p h => absurd h (Nat.not_lt_zero p)
  frame := fun h => absurd h (by decide)

/-! Witnesses: for each statement with hypotheses, a state and operands that meet them together. -/

theorem test_witness_EncodeInvertsDecode : decodeCmd 0x10000002#32 = .instr .frameRaw := by decide
theorem test_witness_StepRunsDecodedInstruction :
    (withAccess (.regWr 14#4 7#32)).pending = [.access (.regWr 14#4 7#32)] ∧
    decodeWrite 14#4 7#32 = some (.instr (.keydec 7#16)) ∧ (withAccess (.regWr 14#4 7#32)).busy = false := by decide
theorem test_witness_StepRunsDecodedInstruction_busy :
    ({ running with pending := [.access (.regWr 0#4 0#32)], turn := .host } : State).turn = .host ∧
    decodeWrite 0#4 0#32 = some (.instr .nop) := by decide
theorem test_witness_StepRunsDecodedInstruction_access :
    (withAccess (.srcRd 0#32)).pending = [.access (.srcRd 0#32)] ∧ (withAccess (.srcRd 0#32)).busy = false ∧
    ({ running with pending := [.access .reset], turn := .host } : State).turn = .host := by decide
theorem test_witness_IllegalWordRaisesIllegalCmd :
    State.reset.busy = false ∧ decodeCmd 0x04000000#32 = .illegal (.unassignedOpcode 4#8) := by decide
theorem test_witness_SequencerStepWritesOneByte :
    State.reset.busy = false ∧ running.busy = true ∧ running.pending = [] ∧ lastByte.busy = true ∧
    lastByte.pos.toNat + 1 = 153856 := by decide
theorem test_witness_EveryStateHasASuccessor : State.reset.pending = [] ∧ State.reset.busy = false := by decide
theorem test_witness_NopClearsAndFinishes : opcode 1#32 = 0#8 ∧ (1#32 : Word) ≠ 0#32 ∧ State.reset.busy = false := by decide
theorem test_witness_Cvt888WritesTruncatedPixel : opcode 0x01FFFFFF#32 = 1#8 ∧ State.reset.busy = false := by decide
theorem test_witness_CvtfConvertsFinRegisters :
    nanFin.busy = false ∧ State.reset.busy = false ∧ ∀ fmt : FloatFmt, State.reset.finRed fmt ≠ .nan ∧
      State.reset.finGreen fmt ≠ .nan ∧ State.reset.finBlue fmt ≠ .nan ∧ nanFin.finRed fmt = .nan := by
  refine ⟨rfl, rfl, fun fmt => ?_⟩
  cases fmt <;> decide
theorem test_witness_Pack565WritesPackedFields :
    opcode 0x031F3F1F#32 = 3#8 ∧ opcode 0x03200000#32 = 3#8 ∧ State.reset.busy = false := by decide
theorem test_witness_ValidFrameCommandStartsJob :
    shaped.busy = false ∧ shaped.srcRank = 3#32 ∧ shaped.srcDim0 = 320#32 ∧ shaped.srcDim1 = 240#32 ∧
    shaped.srcDim2 = 3#32 ∧ rawReady.busy = false ∧ rawReady.srcLen = 153600#32 := by decide
theorem test_witness_WrongShapeRaisesShape :
    State.reset.busy = false ∧ State.reset.srcRank ≠ 3#32 ∧
    ({ shaped with srcDim2 := 4#32 } : State).busy = false ∧ ({ shaped with srcDim2 := 4#32 } : State).srcDim2 ≠ 3#32 := by
  decide
theorem test_witness_WrongLengthRaisesLength : State.reset.busy = false ∧ State.reset.srcLen ≠ 153600#32 := by decide
theorem test_witness_UnsupportedFormatsRaiseUnsupported :
    Instr.frameT9 ∈ [Instr.frameT3, .frameT4, .frameT5, .frameT6, .frameT7, .frameT8, .frameT9, .frameT10, .frameT11,
      .frameT12, .frameT13, .frameT14, .frameT15] ∧ State.reset.busy = false := by decide
theorem test_witness_FrameAcceptanceChecksInOrder :
    shaped.busy = false ∧ rawReady.busy = false ∧ (2#4).toNat = 2 ∧ (3#4).toNat = 3 := by decide
theorem test_witness_BusyCoreTurnsCommandsAway : running.busy = true ∧ decodeCmd 0#32 = .instr .nop := by decide
theorem test_witness_QuantizerFrame :
    (∃ t, exec .cvtf nanFin = .next t) ∧ (∃ t, exec (.cvt888 1#8 2#8 3#8) State.reset = .next t) ∧
    ∃ t, exec (.pack565 1#5 2#6 3#5) running = .next t := ⟨⟨_, rfl⟩, ⟨_, rfl⟩, ⟨_, rfl⟩⟩
theorem test_witness_StatusOnlyFrame :
    (∃ t, exec .nop State.reset = .next t) ∧ ∃ t, exec .frameT3 shaped = .next t := ⟨⟨_, rfl⟩, ⟨_, rfl⟩⟩
theorem test_witness_FrameCommandFrame :
    (∃ t, exec .frameU8 shaped = .next t ∧ t.busy ≠ shaped.busy) ∧
    ∃ t, exec .frameRaw shaped = .next t ∧ t.busy = shaped.busy := ⟨⟨_, rfl, by decide⟩, ⟨_, rfl, by decide⟩⟩
theorem test_witness_KeydecFrame : ∃ t, exec (.keydec 0xFFFF#16) running = .next t := ⟨_, rfl⟩
theorem test_witness_RegisterWritesStore :
    State.reset.busy = false ∧ running.busy = true ∧ 3 ≤ (3#4).toNat ∧ (3#4).toNat ≤ 13 ∧ 3 ≤ (13#4).toNat ∧
    (13#4).toNat ≤ 13 ∧ (14#4).toNat = 14 ∧ (1#4).toNat = 1 ∧ (2#4).toNat = 2 ∧ (15#4).toNat = 15 ∧
    (0#4).toNat = 0 := by decide
theorem test_witness_RegisterWritesStore_illegal :
    State.reset.busy = false ∧ decodeCmd 0x04000000#32 = .illegal (.unassignedOpcode 4#8) := by decide
theorem test_witness_SrcWriteStoresByte :
    running.busy = true ∧ State.reset.busy = false ∧ (0#32).toNat < Config.srcBytes ∧
    (921599#32).toNat < Config.srcBytes := by
  have h := srcBytes_ge
  have h0 : (0#32).toNat = 0 := rfl
  have h1 : (921599#32).toNat = 921599 := rfl
  exact ⟨rfl, rfl, by omega, by omega⟩
theorem test_witness_SrcOutOfRange : State.reset.busy = false := by decide
/-- An address outside SRC, where the parameter SRC_BYTES leaves one. -/
theorem test_witness_SrcOutOfRange_address (h : Config.srcBytes < 4294967296) :
    Config.srcBytes ≤ (BitVec.ofNat 32 Config.srcBytes).toNat := by
  rw [BitVec.toNat_ofNat]
  omega
theorem test_witness_ResetSetsEveryRegister :
    (∃ t, performAccess .reset running = .next t) ∧
    running.busy = true ∧ (HostAccess.regRd 1#4) ≠ .reset ∧ ∃ t, performAccess (.regRd 1#4) running = .next t :=
  ⟨⟨_, rfl⟩, rfl, by decide, _, rfl⟩
theorem test_witness_ResetStateIsClean : ∃ t, performAccess .reset lastByte = .next t := ⟨_, rfl⟩
theorem test_witness_HostNeverWritesFout :
    (HostAccess.regWr 0#4 0x10000000#32) ≠ .reset ∧ ∃ t, performAccess (.regWr 0#4 0x10000000#32) shaped = .next t :=
  ⟨by decide, _, rfl⟩
theorem test_witness_BusyHostChangesLittle :
    running.busy = true ∧ (HostAccess.regWr 14#4 0x8100#32) ≠ .reset ∧
    ∃ t, performAccess (.regWr 14#4 0x8100#32) running = .next t := ⟨rfl, by decide, _, rfl⟩
theorem test_witness_BusyChangesOnlyByJobs_start :
    ({ shaped with pending := [.access (.regWr 0#4 0x10000000#32)] } : State).busy = false ∧
    ∃ t, step { shaped with pending := [.access (.regWr 0#4 0x10000000#32)] } = .next t ∧ t.busy = true := ⟨rfl, _, rfl, rfl⟩
theorem test_witness_BusyChangesOnlyByJobs_finish :
    lastByte.busy = true ∧ ∃ t, step lastByte = .next t ∧ t.busy = false := ⟨rfl, _, rfl, rfl⟩
theorem test_witness_BusyChangesOnlyByJobs_reset :
    let s : State := { running with pending := [.access .reset], turn := .host }
    s.busy = true ∧ nextMover s = some .host ∧ ∃ t, step s = .next t ∧ t.busy = false := ⟨rfl, rfl, _, rfl, rfl⟩
theorem test_witness_OvrIsSticky :
    (∃ t, performAccess (.regWr 3#4 0#32) running = .next t ∧ t.ovr = true) ∧
    (∃ t, performAccess (.srcWr 0#32 0#8) running = .next t ∧ t.ovr = true) ∧
    ∃ t, performAccess (.regWr 0#4 0#32) { State.reset with ovr := true } = .next t ∧ t.ovr = false :=
  ⟨⟨_, rfl, rfl⟩, ⟨_, rfl, rfl⟩, ⟨_, rfl, rfl⟩⟩
theorem test_witness_ErrorStaysUntilNextCommand :
    ∃ t, step { withAccess (.regWr 0#4 0#32) with err := 1#4 } = .next t ∧ t.err ≠ 1#4 := ⟨_, rfl, by decide⟩
theorem test_witness_ResultChangesOnlyByQuantizer :
    ∃ t, step (withAccess (.regWr 0#4 0x01FFFFFF#32)) = .next t ∧
      t.result ≠ (withAccess (.regWr 0#4 0x01FFFFFF#32)).result := by
  refine ⟨_, rfl, ?_⟩
  exact ne_of_eq_of_ne (show _ = 0xFFFF#32 from rfl) (by decide)
theorem test_witness_StepKeepsInvariant : Inv running ∧ ∃ t, step running = .next t :=
  ⟨test_running_has_invariant, _, rfl⟩
theorem test_witness_FloatClamp :
    0 ≤ oneQuanta .binary32 ∧ oneQuanta .binary32 ≤ oneQuanta .binary32 ∧
    oneQuanta .binary32 < oneQuanta .binary32 + 1 := by decide +kernel
theorem test_witness_RoundingIsNearestEven :
    1 < 2 ^ floatPrecision .binary32 ∧ 16777215 < 2 ^ floatPrecision .binary32 ∧
    roundSig (floatPrecision .binary32) 16777217 = 16777216 ∧
    roundSig (floatPrecision .binary32) 16777219 = 16777220 := by decide +kernel
theorem test_witness_FloatEncodingsHaveIeeeValues :
    0 < 256 ∧ 255 < 256 ∧ 2 ^ 23 - 1 < 2 ^ 23 ∧ 2047 < 2048 ∧ 2 ^ 52 - 1 < 2 ^ 52 ∧
    2 ^ 24 - 1 < 2 ^ floatPrecision .binary32 ∧ (2 ^ 24 - 1) * 2 ^ 253 < overflowQuanta .binary32 ∧
    2 ^ 53 - 1 < 2 ^ floatPrecision .binary64 ∧ (2 ^ 53 - 1) * 2 ^ 2045 < overflowQuanta .binary64 := by decide +kernel
theorem test_witness_PseudoInstructionsRunAsTheyExpand_fin :
    2 ≠ 0 ∧ 1 < 2 ^ floatPrecision .binary32 ∧ 1 * 2 ^ 148 < overflowQuanta .binary32 ∧
    1 * oneQuanta .binary32 = 1 * 2 ^ 148 * 2 := by decide +kernel
theorem test_witness_PseudoInstructionsRunAsTheyExpand :
    (ScriptLine.fin .green (.num false 3 2)).operandsOk = true ∧ 4294967295 + 1 ≤ 4294967296 ∧ 255 < 256 ∧
    (scripted [.wait, .nop]).pending = [.wait, .access (.regWr 0#4 0#32)] ∧
    nextMover (scripted [.wait, .nop]) = some .host ∧
    nextMover { running with pending := [.wait], turn := .host } = some .host := by decide
theorem test_witness_QuantizedChannelWithinRange :
    (31 = 31 ∨ 31 = 63) ∧ (63 = 31 ∨ 63 = 63) ∧ FVal.inf false ≠ .nan := by decide
theorem test_witness_SpecialFloatChannels :
    oneQuanta .binary64 ≤ oneQuanta .binary64 ∧ 2 ^ 52 - 1 < 2 ^ (floatPrecision .binary64 - 1) := by decide +kernel
theorem test_witness_FloatQuantizerMonotone :
    quantF .binary32 63 (.fin { neg := false, quanta := 0 }) = some 0 ∧
    quantF .binary32 63 (.fin { neg := false, quanta := 2 ^ 148 }) = some 31 ∧ 0 ≤ 2 ^ 148 := by decide +kernel
theorem test_witness_NanChannelIsFree :
    nanFin.busy = false ∧ nanFin.finRed Config.floatFmt = .nan ∧ nanFin.finGreen Config.floatFmt = .nan ∧
    nanFin.finBlue Config.floatFmt = .nan := by
  have h : ∀ f : FloatFmt, nanFin.finRed f = .nan ∧ nanFin.finGreen f = .nan ∧ nanFin.finBlue f = .nan := by
    intro f; cases f <;> decide
  exact ⟨rfl, h _⟩
theorem test_witness_HeaderAndTablesAreFixed :
    16 ≤ 16 ∧ 255 ≤ 255 ∧ 16 ≤ 255 ∧ 256 ≤ 256 ∧ 511 ≤ 511 ∧ 256 ≤ 511 := by decide
theorem test_witness_ScanVisitsEveryPixelOnce :
    scan .aOuter 76799 = (319, 239) ∧ scan .bOuter 76799 = (319, 239) ∧ scan .aOuter 240 = (1, 0) ∧
    scan .bOuter 320 = (0, 1) := by decide
theorem test_witness_PayloadFollowsElementType :
    running.jobEtype = .u8 ∧ ({ running with jobEtype := .raw } : State).jobEtype = .raw ∧
    ({ running with jobEtype := .float } : State).jobEtype = .float ∧ 0 < 2 ∧ 1 < 2 := by decide
theorem test_witness_FloatPayloadWord :
    ({ running with jobEtype := .float } : State).jobEtype = .float ∧ 0 < 2 ∧ 1 < 2 := by decide
theorem test_witness_PhaseFollowsPos : ∀ p ∈ [0#18, 15#18, 16#18, 255#18, 256#18, 511#18, 512#18, 153855#18],
    PosInv { running with pos := p } := by
  intro p hp
  fin_cases hp <;> exact ⟨by decide, fun _ => by decide⟩
theorem test_witness_JobWritesWholeFrame :
    running.busy = true ∧ running.pos = 0#18 ∧ running.pending = [] ∧ 153855 < 153856 := by decide
/-- 70_reset_and_hazards.md R259: two host turns, then the sequencer's, and so on. -/
theorem test_schedule_follows_its_gaps :
    (List.range 7).map (turnOf (fun k => if k = 0 then 2 else k)) =
      [.host, .host, .sequencer, .host, .sequencer, .host, .host] := by decide
theorem test_witness_EveryStateHasASuccessor_fair :
    (∀ n, ∃ m, n ≤ m ∧ (fun _ : Nat => Agent.sequencer) m = .sequencer) ∧ PosInv running ∧ running.busy = true ∧
    PosInv { running with pending := [.wait, .access (.foutRd 0#32)] } ∧ PosInv lastByte ∧ lastByte.busy = true :=
  ⟨fun n => ⟨n, Nat.le_refl n, rfl⟩, ⟨by decide, fun _ => by decide⟩, rfl, ⟨by decide, fun _ => by decide⟩,
    ⟨by decide, fun _ => by decide⟩, rfl⟩

end Sys2Proof.Tests
end

section
/-! The STATUS word bit by bit and the OVR flag over every access (10_state.md R27, R29). -/

namespace Sys2Proof.Machine

/-! The STATUS word. -/

theorem flagAt_getLsbD {n : Nat} (hn : n < 32) (b : Bool) (i : Nat) :
    (flagAt n b).getLsbD i = (decide (i = n) && b) := by
  cases b
  · simp [flagAt]
  · have htwo : flagAt n true = BitVec.twoPow 32 n := rfl
    simp [htwo, BitVec.getLsbD_twoPow, hn, eq_comm]

/-- Every bit of the STATUS word: ERR from bit 4 up, then one flag at each of the bits 3 to 0. -/
theorem statusWord_getLsbD (s : State) (i : Nat) :
    (statusWord s).getLsbD i =
      (decide (4 ≤ i) && s.err.getLsbD (i - 4) || decide (i = 3) && s.ovr || decide (i = 2) && s.fvalid ||
        decide (i = 1) && s.done || decide (i = 0) && s.busy) := by
  have herr : (s.err.setWidth 32 <<< 4).getLsbD i = (decide (4 ≤ i) && s.err.getLsbD (i - 4)) := by
    by_cases hi : i < 8
    · interval_cases i <;> simp
    · have hbit : s.err.getLsbD (i - 4) = false := BitVec.getLsbD_of_ge _ _ (by omega)
      simp [hbit]
  simp [statusWord, flagAt_getLsbD, herr]

theorem statusWord_getLsbD_of_ge (s : State) {i : Nat} (h : 4 ≤ i) :
    (statusWord s).getLsbD i = s.err.getLsbD (i - 4) := by
  have hflags : i ≠ 3 ∧ i ≠ 2 ∧ i ≠ 1 ∧ i ≠ 0 := by omega
  simp [statusWord_getLsbD, h, hflags]

theorem statusWord_reserved (s : State) : (statusWord s).extractLsb' 8 24 = 0#24 := by
  ext i hi
  have hbit : s.err.getLsbD (8 + i - 4) = false := BitVec.getLsbD_of_ge _ _ (by omega)
  simp [statusWord_getLsbD_of_ge s (by omega : 4 ≤ 8 + i), hbit]

theorem statusWord_err (s : State) : (statusWord s).extractLsb' 4 4 = s.err := by
  ext i hi
  simp [statusWord_getLsbD_of_ge s (Nat.le_add_right 4 i), BitVec.getLsbD_eq_getElem hi]

/-- Settles O28, from the value of every bit of the STATUS word. -/
theorem statusLayout : Obligations.StatusLayout := by
  intro s
  refine ⟨statusWord_reserved s, statusWord_err s, ?_, ?_, ?_, ?_⟩ <;> rw [statusWord_getLsbD] <;> simp

/-! Which effect a register write has. -/

theorem frameInstr_ne_keydec (t : BitVec 4) (rep : Half) : frameInstr t ≠ .keydec rep := by
  unfold frameInstr
  split <;> simp

/-- No command word decodes to KEYDEC, which is a write to KEY_IN (30_encoding.md R100). -/
theorem decodeCmd_ne_keydec (w : Word) (rep : Half) : decodeCmd w ≠ .instr (.keydec rep) := by
  unfold decodeCmd unlessReserved
  split_ifs <;> simp [frameInstr_ne_keydec]

/-- A write to CMD, legal or not, has a command's effect (40_command_interface.md R121, R123). -/
theorem performAccess_cmd_effect {w : Word} {s t : State} (h : performAccess (.regWr 0#4 w) s = .next t) :
    CommandEffect s t := by
  change regWrite 0#4 w s = .next t at h
  cases hd : decodeCmd w with
  | instr ins =>
    simp only [regWrite, decodeWrite_cmd, hd] at h
    obtain ⟨u, he, ⟨rep, rfl, -⟩ | hu⟩ := exec_cases ins s
    · exact absurd hd (decodeCmd_ne_keydec w rep)
    · obtain rfl : u = t := by simpa [he] using h
      exact hu
  | illegal why =>
    simp only [regWrite, decodeWrite_cmd, hd, Host.Outcome.next.injEq] at h
    exact h ▸ illegalCommand_effect s

theorem performAccess_keyIn (v : Word) (s : State) :
    performAccess (.regWr 14#4 v) s = .next (s.storeKeyIn (v.extractLsb' 0 16)) := rfl

theorem performAccess_plain {i : BitVec 4} (h0 : i ≠ 0#4) (h14 : i ≠ 14#4) (v : Word) (s : State) :
    performAccess (.regWr i v) s = .next (plainWrite (regOfIndex i) v s) := by
  simp [performAccess, regWrite, decodeWrite_none h0 h14]

/-- The registers the busy lock covers are those at indices 0 and 3 to 13 (40_command_interface.md R123). -/
theorem lockedWhenBusy_regOfIndex (i : BitVec 4) :
    lockedWhenBusy (regOfIndex i) = true ↔ i.toNat = 0 ∨ (3 ≤ i.toNat ∧ i.toNat ≤ 13) := by
  revert i
  decide

/-! OVR after each access. -/

/-- A command turned away sets OVR, an accepted one clears it: OVR is what BUSY was. -/
theorem CommandEffect.ovr {s t : State} (h : CommandEffect s t) : t.ovr = s.busy := by
  rcases h with ⟨hb, rfl⟩ | ⟨hb, rfl | ⟨w, rfl⟩ | ⟨w, rfl⟩ | ⟨e, rfl⟩ | ⟨j, rfl, -⟩⟩ <;> simp [hb]

@[simp] theorem plainWrite_ovr (r : Reg) (v : Word) (s : State) :
    (plainWrite r v s).ovr = (lockedWhenBusy r && s.busy || s.ovr) := by
  rcases plainWrite_cases r v s with ⟨hr, hb, e⟩ | ⟨hr | hb, e⟩ <;> simp [*]

@[simp] theorem srcWrite_ovr (a : BitVec 32) (b : Byte) (s : State) :
    (srcWrite a b s).ovr = (s.busy || s.ovr) := by
  rcases srcWrite_cases a b s with ⟨hb, e⟩ | ⟨hb, -, e⟩ | ⟨hb, -, e⟩ <;> simp [hb, e]

@[simp] theorem seqStep_ovr (P : Params) (s : State) : (seqStep P s).ovr = s.ovr := by simp [seqStep]

/-- A write that the busy lock ignores: one to CMD, to an encoder register or to SRC while BUSY = 1 (10_state.md R27). -/
def IgnoredWrite (s : State) (a : HostAccess) : Prop :=
  s.busy = true ∧
    ((∃ i v, a = .regWr i v ∧ (i.toNat = 0 ∨ (3 ≤ i.toNat ∧ i.toNat ≤ 13))) ∨ ∃ ad b, a = .srcWr ad b)

/-- An access that clears OVR: RESET or a command that is accepted (10_state.md R27). -/
def ClearsOvr (s : State) (a : HostAccess) : Prop :=
  a = .reset ∨ (s.busy = false ∧ ∃ w, a = .regWr 0#4 w)

section
variable {a : HostAccess} {s t : State}

theorem ovr_of_ignoredWrite (h : performAccess a s = .next t) (ha : IgnoredWrite s a) : t.ovr = true := by
  obtain ⟨hb, ⟨i, v, rfl, hi⟩ | ⟨ad, b, rfl⟩⟩ := ha
  · by_cases h0 : i = 0#4
    · subst h0
      exact (performAccess_cmd_effect h).ovr.trans hb
    · have h14 : i ≠ 14#4 := by rintro rfl; simp at hi
      rw [performAccess_plain h0 h14] at h
      cases h
      simp [(lockedWhenBusy_regOfIndex i).2 hi, hb]
  · cases h
    simp [hb]

theorem ovr_of_clearsOvr (h : performAccess a s = .next t) (ha : ClearsOvr s a) : t.ovr = false := by
  obtain rfl | ⟨hb, w, rfl⟩ := ha
  · cases h
    rfl
  · exact (performAccess_cmd_effect h).ovr.trans hb

theorem ovr_of_no_effect (h : performAccess a s = .next t) (hi : ¬IgnoredWrite s a) (hc : ¬ClearsOvr s a) :
    t.ovr = s.ovr := by
  cases a with
  | regRd i => cases h; rfl
  | srcRd ad => cases h; rfl
  | foutRd ad => cases h; rfl
  | reset => exact absurd (.inl rfl) hc
  | srcWr ad b =>
    have hb : s.busy = false := by
      by_contra hb
      exact hi ⟨by simpa using hb, .inr ⟨ad, b, rfl⟩⟩
    cases h
    simp [hb]
  | regWr i v =>
    have hlock : ¬(lockedWhenBusy (regOfIndex i) = true ∧ s.busy = true) := fun ⟨hl, hb⟩ =>
      hi ⟨hb, .inl ⟨i, v, rfl, (lockedWhenBusy_regOfIndex i).1 hl⟩⟩
    have h0 : i ≠ 0#4 := by
      rintro rfl
      exact hc (.inr ⟨by simpa [regOfIndex, lockedWhenBusy] using hlock, v, rfl⟩)
    by_cases h14 : i = 14#4
    · subst h14
      cases h
      rfl
    · rw [performAccess_plain h0 h14] at h
      cases h
      simpa using fun hl hb => absurd ⟨hl, hb⟩ hlock

end

/-- Settles O38: an access is an ignored write, clears OVR, or does neither, and OVR follows in each case. -/
theorem ovrIsSticky : Obligations.OvrIsSticky := by
  refine ⟨rfl, fun a s t h => ?_, seqStep_ovr⟩
  by_cases hi : IgnoredWrite s a
  · exact .inl ⟨hi.1, hi.2, ovr_of_ignoredWrite h hi⟩
  · by_cases hc : ClearsOvr s a
    · exact .inr (.inl ⟨hc, ovr_of_clearsOvr h hc⟩)
    · exact .inr (.inr ⟨hi, hc, ovr_of_no_effect h hi hc⟩)

end Sys2Proof.Machine
end

section
/-! The script mnemonics: a command word written as the sum of its fields, and one register write per mnemonic
(30_encoding.md R95 to R100, R106). -/

namespace Sys2Proof.Machine

/-! Words from fields. -/

/-- A field placed in the zero bits below a word is added to it. -/
theorem ofNat_or_ofNat_of_dvd {n i x y : Nat} (hx : 2 ^ i ∣ x) (hy : y < 2 ^ i) :
    BitVec.ofNat n x ||| BitVec.ofNat n y = BitVec.ofNat n (x + y) := by
  obtain ⟨a, rfl⟩ := hx
  rw [Nat.two_pow_add_eq_or_of_lt hy, BitVec.ofNat_or]

theorem ofNat_shiftLeft (n x k : Nat) : BitVec.ofNat n x <<< k = BitVec.ofNat n (x * 2 ^ k) := by
  apply BitVec.eq_of_toNat_eq
  simp [Nat.shiftLeft_eq]

/-- Three byte-aligned fields under an opcode make the word that is their positional sum (30_encoding.md R96, R98). -/
theorem ofNat_fields (opc : Nat) {r g b : Nat} (hr : r < 256) (hg : g < 256) (hb : b < 256) :
    BitVec.ofNat 32 (opc * 16777216) ||| BitVec.ofNat 32 r <<< 16 ||| BitVec.ofNat 32 g <<< 8 ||| BitVec.ofNat 32 b =
      BitVec.ofNat 32 (opc * 16777216 + r * 65536 + g * 256 + b) := by
  rw [ofNat_shiftLeft, ofNat_shiftLeft, ofNat_or_ofNat_of_dvd (i := 24), ofNat_or_ofNat_of_dvd (i := 16),
    ofNat_or_ofNat_of_dvd (i := 8)]
  · rfl
  all_goals omega

theorem encodeWord_cvt888 {r g b : Nat} (hr : r < 256) (hg : g < 256) (hb : b < 256) :
    encodeWord (.cvt888 (BitVec.ofNat 8 r) (BitVec.ofNat 8 g) (BitVec.ofNat 8 b)) =
      BitVec.ofNat 32 (0x01000000 + r * 65536 + g * 256 + b) := by
  simp only [encodeWord, BitVec.setWidth_ofNat_of_le_of_lt (by decide : 8 ≤ 32), hr, hg, hb]
  exact ofNat_fields 1 hr hg hb

theorem encodeWord_pack565 {r g b : Nat} (hr : r < 32) (hg : g < 64) (hb : b < 32) :
    encodeWord (.pack565 (BitVec.ofNat 5 r) (BitVec.ofNat 6 g) (BitVec.ofNat 5 b)) =
      BitVec.ofNat 32 (0x03000000 + r * 65536 + g * 256 + b) := by
  simp only [encodeWord, BitVec.setWidth_ofNat_of_le_of_lt (by decide : 5 ≤ 32),
    BitVec.setWidth_ofNat_of_le_of_lt (by decide : 6 ≤ 32), hr, hg, hb]
  exact ofNat_fields 3 (by omega) (by omega) (by omega)

theorem encodeWord_frameInstr (t : BitVec 4) : encodeWord (frameInstr t) = frameWord t := by
  revert t
  decide

theorem frameWord_ofNat {t : Nat} (h : t < 16) : frameWord (BitVec.ofNat 4 t) = BitVec.ofNat 32 (0x10000000 + t) := by
  rw [frameWord, BitVec.setWidth_ofNat_of_le_of_lt (by decide) h]
  exact ofNat_or_ofNat_of_dvd (i := 4) (by decide) h

theorem encodeWord_keydec {rep : Nat} (h : rep < 65536) :
    encodeWord (.keydec (BitVec.ofNat 16 rep)) = BitVec.ofNat 32 rep :=
  BitVec.setWidth_ofNat_of_le_of_lt (by decide) h

/-! One write per mnemonic. -/

/-- Every FRAME command is a write to CMD. -/
@[simp] theorem encodeIndex_frameInstr (t : BitVec 4) : encodeIndex (frameInstr t) = 0#4 := by
  revert t
  decide

/-- A line stands for its operations while its operands are in range, and is refused where they are not (R106). -/
theorem expandLine_eq_ite {fmt : FloatFmt} {l : ScriptLine} {p : Prop} [Decidable p] {ops : List HostOp}
    (hok : l.operandsOk = true ↔ p) (hops : p → scriptOps fmt l = ops) :
    expandLine fmt l = if p then some ops else none := by
  by_cases h : p
  · simp [expandLine, hok, h, hops]
  · simp [expandLine, hok, h]

section
variable (fmt : FloatFmt)

theorem expandLine_cvt888 (r g b : Nat) : expandLine fmt (.cvt888 r g b) =
    if r < 256 ∧ g < 256 ∧ b < 256 then
      some [.access (.regWr 0#4 (BitVec.ofNat 32 (0x01000000 + r * 65536 + g * 256 + b)))]
    else none :=
  expandLine_eq_ite (by simp [ScriptLine.operandsOk, and_assoc]) fun ⟨hr, hg, hb⟩ => by
    rw [scriptOps, cmdOp, encodeWord_cvt888 hr hg hb, encodeIndex]

theorem expandLine_pack565 (r5 g6 b5 : Nat) : expandLine fmt (.pack565 r5 g6 b5) =
    if r5 < 32 ∧ g6 < 64 ∧ b5 < 32 then
      some [.access (.regWr 0#4 (BitVec.ofNat 32 (0x03000000 + r5 * 65536 + g6 * 256 + b5)))]
    else none :=
  expandLine_eq_ite (by simp [ScriptLine.operandsOk, and_assoc]) fun ⟨hr, hg, hb⟩ => by
    rw [scriptOps, cmdOp, encodeWord_pack565 hr hg hb, encodeIndex]

theorem expandLine_frameT (t : Nat) : expandLine fmt (.frameT t) =
    if t < 16 then some [.access (.regWr 0#4 (BitVec.ofNat 32 (0x10000000 + t)))] else none :=
  expandLine_eq_ite (by simp [ScriptLine.operandsOk]) fun h => by
    rw [scriptOps, cmdOp, encodeWord_frameInstr, frameWord_ofNat h, encodeIndex_frameInstr]

theorem expandLine_keydec (rep : Nat) : expandLine fmt (.keydec rep) =
    if rep < 65536 then some [.access (.regWr 14#4 (BitVec.ofNat 32 rep))] else none :=
  expandLine_eq_ite (by simp [ScriptLine.operandsOk]) fun h => by
    rw [scriptOps, cmdOp, encodeWord_keydec h, encodeIndex]

end

/-- Settles O5: a mnemonic with operands by the value of its word, one without by evaluation. -/
theorem mnemonicsExpandToTheirWords : Obligations.MnemonicsExpandToTheirWords := fun fmt =>
  ⟨rfl, expandLine_cvt888 fmt, rfl, expandLine_pack565 fmt, rfl, rfl, rfl, expandLine_frameT fmt,
    expandLine_keydec fmt⟩

end Sys2Proof.Machine
end

section
/-! The command interface: what a register write does at each index of the window and the NOP command
(40_command_interface.md R123, R124, R126). -/

namespace Sys2Proof.Machine

/-! The register window after a plain store. -/

theorem regOfIndex_injective : Function.Injective regOfIndex :=
  Function.LeftInverse.injective (g := regIndex) (by decide)

/-- The registers that store a plain write are those the busy lock covers, but for CMD (40_command_interface.md R123, R124). -/
theorem State.readReg_storeReg_same (s : State) {r : Reg} (hlock : lockedWhenBusy r = true) (hcmd : r ≠ .cmd) (v : Word) :
    (s.storeReg r v).readReg r = v := by
  cases r
  case cmd => exact absurd rfl hcmd
  case status | result | keyIn | keyOut => exact absurd hlock (by decide)
  all_goals rfl

theorem State.readReg_storeReg_other (s : State) {r q : Reg} (h : r ≠ q) (v : Word) :
    (s.storeReg r v).readReg q = s.readReg q := by
  cases q <;> simp [State.readReg, statusWord, State.report, h]

theorem State.sameBytes_storeReg (s : State) (r : Reg) (v : Word) : SameBytes s (s.storeReg r v) :=
  ⟨State.srcByte_congr (by simp) (by simp), State.foutByte_congr (by simp) (by simp)⟩

theorem State.sameHost_storeReg (s : State) (r : Reg) (v : Word) : SameHost s (s.storeReg r v) := by
  simp [SameHost]

/-! A register write at each index. -/

theorem plainWrite_idle {s : State} (h : s.busy = false) (r : Reg) (v : Word) :
    plainWrite r v s = s.storeReg r v := by
  simp [plainWrite, h]

/-- STATUS, RESULT and KEY_OUT ignore every write, at every time (40_command_interface.md R124). -/
theorem performAccess_readOnly {i : BitVec 4} (h : i.toNat = 1 ∨ i.toNat = 2 ∨ i.toNat = 15) (v : Word) (s : State) :
    performAccess (.regWr i v) s = .next s := by
  obtain rfl | rfl | rfl : i = 1#4 ∨ i = 2#4 ∨ i = 15#4 := by bv_omega
  all_goals rfl

/-- Storing the low half of a word clears its high half. -/
theorem setWidth_extractLsb'_low_half (v : Word) : (v.extractLsb' 0 16).setWidth 32 = v &&& 0x0000FFFF#32 := by
  apply BitVec.eq_of_toNat_eq
  simp [Nat.and_two_pow_sub_one_eq_mod v.toNat 16]
  omega

theorem performAccess_keyIn_masked (v : Word) (s : State) :
    performAccess (.regWr 14#4 v) s = .next { s with keyIn := v &&& 0x0000FFFF#32 } := by
  rw [performAccess_keyIn, State.storeKeyIn, setWidth_extractLsb'_low_half]

theorem CommandEffect.eq_setOvr {s t : State} (h : CommandEffect s t) (hb : s.busy = true) : t = s.setOvr := by
  obtain ⟨-, rfl⟩ | ⟨hidle, -⟩ := h
  · rfl
  · simp [hb] at hidle

/-- The busy lock: a write to CMD or to an encoder register sets OVR and is lost (40_command_interface.md R123). -/
theorem performAccess_locked {i : BitVec 4} {s : State} (hb : s.busy = true)
    (hi : i.toNat = 0 ∨ (3 ≤ i.toNat ∧ i.toNat ≤ 13)) (v : Word) :
    performAccess (.regWr i v) s = .next s.setOvr := by
  by_cases h0 : i = 0#4
  · subst h0
    obtain ⟨t, ht, -⟩ := performAccess_cases (.regWr 0#4 v) s
    rw [ht, (performAccess_cmd_effect ht).eq_setOvr hb]
  · have h14 : i ≠ 14#4 := by rintro rfl; simp at hi
    rw [performAccess_plain h0 h14]
    simp [plainWrite, (lockedWhenBusy_regOfIndex i).2 hi, hb]

/-- With BUSY = 0 an encoder register stores the word and the rest stays (40_command_interface.md R124). -/
theorem performAccess_store {i : BitVec 4} {s : State} (hb : s.busy = false) (hlo : 3 ≤ i.toNat) (hhi : i.toNat ≤ 13)
    (v : Word) : performAccess (.regWr i v) s = .next (s.storeReg (regOfIndex i) v) := by
  rw [performAccess_plain (by bv_omega) (by bv_omega), plainWrite_idle hb]

theorem State.readReg_storeReg_regOfIndex {i : BitVec 4} (hlo : 3 ≤ i.toNat) (hhi : i.toNat ≤ 13) (v : Word) (s : State) :
    (s.storeReg (regOfIndex i) v).readReg (regOfIndex i) = v :=
  s.readReg_storeReg_same ((lockedWhenBusy_regOfIndex i).2 (.inr ⟨hlo, hhi⟩))
    (regOfIndex_injective.ne (show i ≠ 0#4 by bv_omega)) v

theorem illegalCommand_idle {s : State} (h : s.busy = false) :
    illegalCommand s = { s with ovr := false, err := 4#4, done := true } :=
  acceptCommand_idle h _

/-- A write to CMD is the command its word decodes to (40_command_interface.md R121). -/
theorem performAccess_cmd_of_instr {v : Word} {ins : Instr} (h : decodeCmd v = .instr ins) (s : State) :
    performAccess (.regWr 0#4 v) s = exec ins s := by
  simp [performAccess, regWrite, decodeWrite_cmd, h]

theorem performAccess_cmd_of_illegal {v : Word} {why : IllegalCmd} (h : decodeCmd v = .illegal why) (s : State) :
    performAccess (.regWr 0#4 v) s = .next (illegalCommand s) := by
  simp [performAccess, regWrite, decodeWrite_cmd, h]

/-- Settles O26: at each index by what the write does there. -/
theorem registerWritesStore : Obligations.RegisterWritesStore := by
  intro i v s
  refine ⟨fun hb hlo hhi => ?_, fun hb hi => performAccess_locked hb hi v, fun hi => ?_,
    fun hi => performAccess_readOnly hi v s, fun hb hi => ?_⟩
  · exact ⟨_, performAccess_store hb hlo hhi v, State.readReg_storeReg_regOfIndex hlo hhi v s,
      fun j hj => s.readReg_storeReg_other (regOfIndex_injective.ne hj.symm) v, by simp, by simp,
      s.sameBytes_storeReg _ v, s.sameHost_storeReg _ v⟩
  · obtain rfl : i = 14#4 := BitVec.eq_of_toNat_eq hi
    exact performAccess_keyIn_masked v s
  · obtain rfl : i = 0#4 := BitVec.eq_of_toNat_eq hi
    cases hd : decodeCmd v with
    | instr ins => exact performAccess_cmd_of_instr hd s
    | illegal why => rw [performAccess_cmd_of_illegal hd, illegalCommand_idle hb]

/-! NOP. -/

/-- A word is its opcode and its low 24 bits (30_encoding.md R93). -/
theorem eq_zero_of_opcode_of_low {w : Word} (hop : opcode w = 0#8) (hlow : w.extractLsb' 0 24 = 0#24) : w = 0#32 := by
  have hhigh : w.toNat / 2 ^ 24 % 2 ^ 8 = 0 := by
    simpa [opcode, Nat.shiftRight_eq_div_pow] using congrArg BitVec.toNat hop
  have hrest : w.toNat % 2 ^ 24 = 0 := by simpa using congrArg BitVec.toNat hlow
  apply BitVec.eq_of_toNat_eq
  simp only [BitVec.toNat_ofNat]
  omega

/-- An opcode 0x00 word with any other bit set is illegal (40_command_interface.md R126). -/
theorem decodeCmd_opcode_zero {w : Word} (hop : opcode w = 0#8) (hw : w ≠ 0#32) :
    decodeCmd w = .illegal (.reservedBits 0#8) := by
  have hlow : w.extractLsb' 0 24 ≠ 0#24 := fun hlow => hw (eq_zero_of_opcode_of_low hop hlow)
  simp [decodeCmd, hop, unlessReserved, hlow]

theorem exec_nop_idle {s : State} (h : s.busy = false) :
    exec .nop s = .next { s with ovr := false, err := 0#4, done := true } :=
  congrArg Host.Outcome.next (acceptCommand_idle h State.finish)

/-- STATUS of an idle core whose last command finished without an error. -/
theorem statusWord_finished {s : State} (hb : s.busy = false) (ho : s.ovr = false) (he : s.err = 0#4)
    (hd : s.done = true) : statusWord s = if s.fvalid then 6#32 else 2#32 := by
  rw [statusWord, hb, ho, he, hd]
  cases s.fvalid <;> rfl

/-- Settles O11: a non-zero word of opcode 0 has a reserved bit set, and NOP is an acceptance that finishes. -/
theorem nopClearsAndFinishes : Obligations.NopClearsAndFinishes :=
  ⟨rfl, fun _ hop hw => ⟨_, decodeCmd_opcode_zero hop hw⟩,
    fun _ hb => ⟨exec_nop_idle hb, statusWord_finished hb rfl rfl rfl⟩⟩

end Sys2Proof.Machine
end

section
/-! The 8-bit quantizer: the packed word as the sum of its fields, truncation of the channels, and the commands CVT888 and
PACK565 (41_quantizer.md R140, R145, R147, R149). -/

namespace Sys2Proof.Machine

/-! The packed word. -/

/-- The fields of a packed word do not overlap, so the word is their positional sum (41_quantizer.md R145). -/
theorem pack_eq_ofNat (r5 : BitVec 5) (g6 : BitVec 6) (b5 : BitVec 5) :
    pack r5 g6 b5 = BitVec.ofNat 16 (r5.toNat * 2 ^ 11 + g6.toNat * 2 ^ 5 + b5.toNat) := by
  have hg := g6.isLt
  have hb := b5.isLt
  simp only [pack, ← BitVec.ofNat_toNat, ofNat_shiftLeft]
  rw [ofNat_or_ofNat_of_dvd (i := 11), ofNat_or_ofNat_of_dvd (i := 5)]
  all_goals omega

/-- The positional sum of the fields fits in 16 bits. -/
theorem toNat_pack (r5 : BitVec 5) (g6 : BitVec 6) (b5 : BitVec 5) :
    (pack r5 g6 b5).toNat = r5.toNat * 2 ^ 11 + g6.toNat * 2 ^ 5 + b5.toNat := by
  have hr := r5.isLt
  have hg := g6.isLt
  have hb := b5.isLt
  rw [pack_eq_ofNat, BitVec.toNat_ofNat, Nat.mod_eq_of_lt (by omega)]

/-- Settles O43, from the fields of the packed word and its value as their sum. -/
theorem packPlacesFields : Obligations.PackPlacesFields := fun r5 g6 b5 =>
  ⟨pack_red r5 g6 b5, pack_green r5 g6 b5, pack_blue r5 g6 b5, toNat_pack r5 g6 b5⟩

/-! Truncation of 8-bit channels. -/

/-- Shifting the low bits out and keeping the field's width is taking the channel's top bits (41_quantizer.md R140). -/
theorem q888_eq_pack_extractLsb' (r g b : Byte) :
    q888 r g b = pack (r.extractLsb' 3 5) (g.extractLsb' 2 6) (b.extractLsb' 3 5) := by
  simp only [q888, BitVec.setWidth_ushiftRight_eq_extractLsb]

/-- Settles O42: the pixel is the packing of the channels' top bits, and packing keeps its fields. -/
theorem channelsTruncate : Obligations.ChannelsTruncate := by
  intro r g b
  rw [q888_eq_pack_extractLsb']
  exact ⟨pack_red _ _ _, pack_green _ _ _, pack_blue _ _ _⟩

/-- The bits of a value from bit `k` to its top are its quotient by `2 ^ k`. -/
theorem toNat_extractLsb'_top {w k n : Nat} (hw : w ≤ k + n) (x : BitVec w) :
    (x.extractLsb' k n).toNat = x.toNat / 2 ^ k := by
  have hx : x.toNat < 2 ^ k * 2 ^ n := Nat.pow_add 2 k n ▸ BitVec.toNat_lt_twoPow_of_le hw
  rw [BitVec.extractLsb'_toNat, Nat.shiftRight_eq_div_pow, Nat.mod_eq_of_lt (Nat.div_lt_of_lt_mul hx)]

theorem toNat_q888 (r g b : Byte) :
    (q888 r g b).toNat = r.toNat / 2 ^ 3 * 2 ^ 11 + g.toNat / 2 ^ 2 * 2 ^ 5 + b.toNat / 2 ^ 3 := by
  rw [q888_eq_pack_extractLsb', toNat_pack]
  simp only [toNat_extractLsb'_top, Nat.reduceAdd, Nat.reduceLeDiff]

/-! The commands. -/

/-- RESULT for three packed fields: their positional sum, zero-extended (41_quantizer.md R149). -/
theorem setWidth_pack (r5 : BitVec 5) (g6 : BitVec 6) (b5 : BitVec 5) :
    (pack r5 g6 b5).setWidth 32 = BitVec.ofNat 32 (r5.toNat * 2048 + g6.toNat * 32 + b5.toNat) := by
  rw [← BitVec.ofNat_toNat, toNat_pack]
  rfl

/-- RESULT for a truncated 8-bit pixel (41_quantizer.md R147). -/
theorem setWidth_q888 (r g b : Byte) :
    (q888 r g b).setWidth 32 = BitVec.ofNat 32 (r.toNat / 8 * 2048 + g.toNat / 4 * 32 + b.toNat / 8) := by
  rw [← BitVec.ofNat_toNat, toNat_q888]
  rfl

/-- An accepted command that delivers a word puts it in RESULT and finishes (41_quantizer.md R147, R149). -/
theorem acceptCommand_deliver_idle {s : State} (h : s.busy = false) (w : Half) :
    acceptCommand (fun u => u.deliver w) s =
      { s with ovr := false, err := 0#4, done := true, result := w.setWidth 32 } :=
  acceptCommand_idle h _

/-- Every word of opcode 0x01 is a CVT888 of its low three bytes (30_encoding.md R96). -/
theorem decodeCmd_opcode_one {w : Word} (hop : opcode w = 1#8) :
    decodeCmd w = .instr (.cvt888 (w.extractLsb' 16 8) (w.extractLsb' 8 8) (w.extractLsb' 0 8)) := by
  simp [decodeCmd, hop]

/-- A word of opcode 0x03 is a PACK565 of its fields where its reserved bits are zero (30_encoding.md R98). -/
theorem decodeCmd_opcode_three {w : Word} (hop : opcode w = 3#8) :
    decodeCmd w = if w &&& 0x00E0C0E0#32 = 0#32 then
        .instr (.pack565 (w.extractLsb' 16 5) (w.extractLsb' 8 6) (w.extractLsb' 0 5))
      else .illegal (.reservedBits 3#8) := by
  simp [decodeCmd, hop, unlessReserved]

theorem exec_cvt888_idle {s : State} (h : s.busy = false) (r g b : Byte) :
    exec (.cvt888 r g b) s =
      .next { s with ovr := false, err := 0#4, done := true, result := (q888 r g b).setWidth 32 } :=
  congrArg Host.Outcome.next (acceptCommand_deliver_idle h (q888 r g b))

theorem exec_pack565_idle {s : State} (h : s.busy = false) (r5 : BitVec 5) (g6 : BitVec 6) (b5 : BitVec 5) :
    exec (.pack565 r5 g6 b5) s =
      .next { s with ovr := false, err := 0#4, done := true, result := (pack r5 g6 b5).setWidth 32 } :=
  congrArg Host.Outcome.next (acceptCommand_deliver_idle h (pack r5 g6 b5))

/-- Settles O12: the opcode alone makes the word a CVT888, and the command delivers the truncated pixel. -/
theorem cvt888WritesTruncatedPixel : Obligations.Cvt888WritesTruncatedPixel :=
  ⟨fun _ hop => decodeCmd_opcode_one hop, fun r g b _ hb => by rw [exec_cvt888_idle hb, setWidth_q888]⟩

/-- Settles O14: the reserved mask decides the decoding, and the command delivers the packed fields. -/
theorem pack565WritesPackedFields : Obligations.Pack565WritesPackedFields :=
  ⟨fun _ hop => decodeCmd_opcode_three hop, fun r5 g6 b5 _ hb => by rw [exec_pack565_idle hb, setWidth_pack]⟩

end Sys2Proof.Machine
end

section
/-! The frame packer: the acceptance of a FRAME command, the regions of the frame, the scan order and the payload
(42_frame_packer.md R172 to R178, R186). -/

namespace Sys2Proof.Machine

/-! The acceptance of a FRAME command. -/

/-- Every FRAME command is the acceptance of its own element type. -/
theorem exec_frameInstr (t : BitVec 4) (s : State) :
    exec (frameInstr t) s = .next (acceptCommand (acceptFrame t) s) := by
  obtain ⟨⟨n, hn⟩⟩ := t
  interval_cases n <;> rfl

theorem State.shapeValid_iff (s : State) : s.shapeValid = true ↔
    s.srcRank = 3#32 ∧ s.srcDim0 = 320#32 ∧ s.srcDim1 = 240#32 ∧ s.srcDim2 = 3#32 := by
  simp [State.shapeValid, and_assoc]

theorem State.lengthValid_iff (s : State) : s.lengthValid = true ↔ s.srcLen = 153600#32 := by
  simp [State.lengthValid]

/-- The checks of the acceptance in their order: the element type, then the part of the descriptor it needs
(42_frame_packer.md R186, 60_exceptions.md R225). -/
theorem acceptFrame_eq_ite (t : BitVec 4) (s : State) : acceptFrame t s =
    if 2 < t.toNat then s.raise .unsupportedFormat
    else if t.toNat ≠ 2 ∧ ¬s.shapeValid = true then s.raise .shape
    else if t.toNat = 2 ∧ ¬s.lengthValid = true then s.raise .length
    else s.startJob (if t.toNat = 0 then .u8 else if t.toNat = 1 then .float else .raw) := by
  unfold acceptFrame
  split
  case h_1 h => cases s.shapeValid <;> simp [h]
  case h_2 h => cases s.shapeValid <;> simp [h]
  case h_3 h => cases s.lengthValid <;> simp [h]
  case h_4 h0 h1 h2 =>
    have hne : t.toNat ≠ 0 ∧ t.toNat ≠ 1 ∧ t.toNat ≠ 2 := ⟨h0, h1, h2⟩
    have hlt : 2 < t.toNat := by omega
    simp [hlt]

/-- Settles O19: an idle core runs the acceptance, whose checks stand in this order; a job takes the next drawing number. -/
theorem frameAcceptanceChecksInOrder : Obligations.FrameAcceptanceChecksInOrder := by
  intro t s hb
  refine ⟨s.draws + 1, ?_⟩
  rw [exec_frameInstr, acceptCommand_idle hb, acceptFrame_eq_ite]
  simp only [State.shapeValid_iff, State.lengthValid_iff]
  rfl

/-! The regions of the frame. -/

section
variable (P : Params) (s : State)

theorem frameByte_header {p : Nat} (h : p < 16) : frameByte P s p = headerBytes.getD p 0#8 :=
  if_pos h

theorem frameByte_tableA {p : Nat} (hlo : 16 ≤ p) (hhi : p < 256) : frameByte P s p = BitVec.ofNat 8 p := by
  rw [frameByte, if_neg (by omega), if_pos hhi]

theorem frameByte_tableB {p : Nat} (hlo : 256 ≤ p) (hhi : p < 512) : frameByte P s p = BitVec.ofNat 8 (p - 256) := by
  rw [frameByte, if_neg (by omega), if_neg (by omega), if_pos hhi]

theorem frameByte_payload (j : Nat) : frameByte P s (512 + j) = payloadByte P s j := by
  rw [frameByte, if_neg (by omega), if_neg (by omega), if_neg (by omega), Nat.add_sub_cancel_left]

/-- The first 16 bytes of the frame are the header (42_frame_packer.md R172). -/
theorem map_frameByte_range_header : (List.range 16).map (frameByte P s) = headerBytes :=
  calc (List.range 16).map (frameByte P s)
      = (List.range 16).map (headerBytes.getD · 0#8) :=
        List.map_congr_left fun _ hp => frameByte_header P s (List.mem_range.1 hp)
    _ = headerBytes := by decide

end

/-- Settles O53, from the byte of each region; the table entries fit in a byte. -/
theorem headerAndTablesAreFixed : Obligations.HeaderAndTablesAreFixed := by
  intro P s
  refine ⟨map_frameByte_range_header P s, fun p hlo hhi => ?_, fun p hlo hhi => ?_⟩
  · rw [frameByte_tableA P s hlo (by omega), BitVec.toNat_ofNat, Nat.mod_eq_of_lt (by omega)]
  · rw [frameByte_tableB P s hlo (by omega), BitVec.toNat_ofNat, Nat.mod_eq_of_lt (by omega)]

/-! The scan order. -/

/-- The payload pixel at which a scan order visits a source pixel: the inverse of `scan`. -/
def scanIndex (o : ScanOrder) (a b : Nat) : Nat :=
  match o with
  | .aOuter => a * 240 + b
  | .bOuter => b * 320 + a

theorem scanIndex_scan (o : ScanOrder) (k : Nat) : scanIndex o (scan o k).1 (scan o k).2 = k := by
  cases o
  · exact Nat.div_add_mod' k 240
  · exact Nat.div_add_mod' k 320

theorem scan_scanIndex (o : ScanOrder) {a b : Nat} (ha : a < 320) (hb : b < 240) : scan o (scanIndex o a b) = (a, b) := by
  cases o <;> simp only [scan, scanIndex, Prod.mk.injEq] <;> omega

theorem scanIndex_lt (o : ScanOrder) {a b : Nat} (ha : a < 320) (hb : b < 240) : scanIndex o a b < 76800 := by
  cases o <;> simp only [scanIndex] <;> omega

theorem scan_lt (o : ScanOrder) {k : Nat} (hk : k < 76800) : (scan o k).1 < 320 ∧ (scan o k).2 < 240 := by
  cases o <;> simp only [scan] <;> omega

/-- In the order A_OUTER payload pixel `k` takes its channels from the elements `3k`, `3k + 1`, `3k + 2`
(42_frame_packer.md R177). -/
theorem elemIndex_scan_aOuter (k c : Nat) : elemIndex (scan .aOuter k).1 (scan .aOuter k).2 c = 3 * k + c := by
  simp only [elemIndex, scan, Nat.div_add_mod', Nat.mul_comm k 3]

/-- Settles O54: `scanIndex` inverts `scan`, so each source pixel is visited at that one payload pixel. -/
theorem scanVisitsEveryPixelOnce : Obligations.ScanVisitsEveryPixelOnce := by
  refine ⟨fun _ => rfl, fun _ => rfl, elemIndex_scan_aOuter, fun o => ⟨fun _ hk => scan_lt o hk, fun a b ha hb => ?_⟩⟩
  refine ⟨scanIndex o a b, ⟨scanIndex_lt o ha hb, scan_scanIndex o ha hb⟩, fun k' _ hk' => ?_⟩
  rw [← scanIndex_scan o k', hk']

/-! The payload. -/

section
variable (P : Params) {s : State}

theorem payloadByte_raw (hj : s.jobEtype = .raw) (j : Nat) : payloadByte P s j = s.srcByte j := by
  simp [payloadByte, hj]

/-- The payload bytes `2k` and `2k + 1` are the halves of pixel `k`'s word (42_frame_packer.md R175, R178). -/
theorem payloadByte_u8 (hj : s.jobEtype = .u8) (k : Nat) {h : Nat} (hh : h < 2) :
    payloadByte P s (2 * k + h) = wordHalf P.payloadEndian (pixU8 P s k) h := by
  simp [payloadByte, hj, Nat.mul_add_div, Nat.div_eq_of_lt hh, Nat.mod_eq_of_lt hh]

theorem payloadByte_float (hj : s.jobEtype = .float) (k : Nat) {h : Nat} (hh : h < 2) :
    payloadByte P s (2 * k + h) = wordHalf P.payloadEndian (pixF P s k) h := by
  simp [payloadByte, hj, Nat.mul_add_div, Nat.div_eq_of_lt hh, Nat.mod_eq_of_lt hh]

end

/-- Settles O55: the payload region of the frame by element type; the pixel's word and its halves are the definitions'. -/
theorem payloadFollowsElementType : Obligations.PayloadFollowsElementType := by
  refine ⟨fun P s => ⟨fun hj j => ?_, fun hj k h hh => ?_, fun hj k h hh => ?_, fun _ => rfl⟩,
    fun _ => ⟨rfl, rfl, rfl, rfl⟩⟩
  · rw [frameByte_payload, payloadByte_raw P hj]
  · rw [Nat.add_assoc, frameByte_payload, payloadByte_u8 P hj k hh]
  · rw [Nat.add_assoc, frameByte_payload, payloadByte_float P hj k hh]

end Sys2Proof.Machine
end

section
/-! The key decoder: what the registers KEY_IN and KEY_OUT read after a report, and KEY_OUT bit by bit
(43_key_decoder.md R200 to R204). -/

namespace Sys2Proof.Machine

/-! The report in KEY_IN. -/

@[simp] theorem State.report_storeKeyIn (s : State) (rep : Half) : (s.storeKeyIn rep).report = rep := by
  rw [State.report, State.storeKeyIn_keyIn, BitVec.extractLsb'_setWidth_of_le (by decide), BitVec.extractLsb'_eq_self]

theorem State.readReg_keyIn_storeKeyIn (s : State) (rep : Half) :
    (s.storeKeyIn rep).readReg .keyIn = rep.setWidth 32 := by
  rw [State.readReg, State.report_storeKeyIn]

theorem State.readReg_keyOut_storeKeyIn (s : State) (rep : Half) :
    (s.storeKeyIn rep).readReg .keyOut = keyOutWord rep := by
  rw [State.readReg, State.report_storeKeyIn]

/-! A written word: its low half is the report. -/

theorem State.storeKeyIn_low_half (s : State) (v : Word) :
    s.storeKeyIn (v.extractLsb' 0 16) = { s with keyIn := v &&& 0x0000FFFF#32 } := by
  rw [State.storeKeyIn, setWidth_extractLsb'_low_half]

/-- The mask of the flags lies within the low half, so KEY_OUT shows the written word's second byte at its place. -/
theorem keyOutWord_low_half (v : Word) : keyOutWord (v.extractLsb' 0 16) = v &&& 0x0000FF00#32 :=
  calc keyOutWord (v.extractLsb' 0 16)
      = (v.extractLsb' 0 16).setWidth 32 &&& (0xFF00#16).setWidth 32 := BitVec.setWidth_and
    _ = v &&& 0x0000FFFF#32 &&& 0x0000FF00#32 := by rw [setWidth_extractLsb'_low_half]; rfl
    _ = v &&& 0x0000FF00#32 := BitVec.and_assoc _ _ _

/-- Settles O20: the decoder takes the low half of any written word, and KEYDEC stores it whatever the state. -/
theorem keydecStoresReport : Obligations.KeydecStoresReport := by
  intro v s
  rw [← State.storeKeyIn_low_half]
  refine ⟨decodeWrite_keyIn v, rfl, ?_, ?_⟩
  · rw [State.readReg_keyIn_storeKeyIn, setWidth_extractLsb'_low_half]
  · rw [State.readReg_keyOut_storeKeyIn, keyOutWord_low_half]

/-! KEY_OUT bit by bit. -/

/-- KEY_OUT keeps the report's bits from bit 8 up at their places (43_key_decoder.md R201). -/
theorem keyOutWord_getLsbD (rep : Half) (n : Nat) : (keyOutWord rep).getLsbD n = (decide (8 ≤ n) && rep.getLsbD n) := by
  by_cases hn : n < 16
  · have hmask : ∀ k < 16, (0xFF00#16).getLsbD k = decide (8 ≤ k) := by decide
    have hn32 : n < 32 := by omega
    rw [keyOutWord, BitVec.getLsbD_setWidth, BitVec.getLsbD_and, hmask n hn]
    simp [hn32, Bool.and_comm]
  · have hbit : rep.getLsbD n = false := BitVec.getLsbD_of_ge rep n (by omega)
    simp [keyOutWord, hbit]

theorem keyOutWord_getLsbD_of_ge (rep : Half) {n : Nat} (h : 8 ≤ n) : (keyOutWord rep).getLsbD n = rep.getLsbD n := by
  simp [keyOutWord_getLsbD, h]

/-- No flag of a report stands below bit 8 or, LIGHT included, above bit 15 (43_key_decoder.md R201, R204). -/
theorem keyOutWord_getLsbD_unused (rep : Half) {n : Nat} (h : n < 8 ∨ 16 ≤ n) : (keyOutWord rep).getLsbD n = false := by
  rw [keyOutWord_getLsbD]
  obtain hlow | hhigh := h
  · simp [Nat.not_le_of_lt hlow]
  · simp [BitVec.getLsbD_of_ge rep n hhigh]

/-- Settles O60: the flags are the report's bits 15 to 8, which KEY_OUT keeps, and the other bits are unused. -/
theorem keyOutShowsButtons : Obligations.KeyOutShowsButtons := by
  intro s
  have hflag : ∀ n, 8 ≤ n → (s.readReg .keyOut).getLsbD n = s.report.getLsbD n :=
    fun _ hn => keyOutWord_getLsbD_of_ge s.report hn
  have hunused : ∀ n, n < 8 ∨ 16 ≤ n → (s.readReg .keyOut).getLsbD n = false :=
    fun _ hn => keyOutWord_getLsbD_unused s.report hn
  exact ⟨rfl, hflag 15 (by decide), hflag 14 (by decide), hflag 13 (by decide), hflag 12 (by decide),
    hflag 11 (by decide), hflag 10 (by decide), hflag 9 (by decide), hflag 8 (by decide),
    hunused 16 (by decide), rfl, hunused⟩

end Sys2Proof.Machine
end

section
/-! The errors an idle core raises, each with its whole effect: the checks of a FRAME command's acceptance and the illegal
command word (60_exceptions.md R221 to R224, R226). -/

namespace Sys2Proof.Machine

/-! Which error the acceptance raises. -/

section
variable {t : BitVec 4} {s : State}

theorem State.shapeValid_eq_false_iff : s.shapeValid = false ↔
    s.srcRank ≠ 3#32 ∨ s.srcDim0 ≠ 320#32 ∨ s.srcDim1 ≠ 240#32 ∨ s.srcDim2 ≠ 3#32 := by
  simp only [← Bool.not_eq_true, State.shapeValid_iff, not_and_or, ne_eq]

theorem State.lengthValid_eq_false_iff : s.lengthValid = false ↔ s.srcLen ≠ 153600#32 := by
  rw [← Bool.not_eq_true, State.lengthValid_iff]

theorem acceptFrame_unsupported (ht : 2 < t.toNat) (s : State) : acceptFrame t s = s.raise .unsupportedFormat := by
  rw [acceptFrame_eq_ite, if_pos ht]

theorem acceptFrame_wrong_shape (ht : t.toNat < 2) (h : s.shapeValid = false) : acceptFrame t s = s.raise .shape := by
  rw [acceptFrame_eq_ite, if_neg (by omega), if_pos ⟨by omega, by simp [h]⟩]

theorem acceptFrame_wrong_length (ht : t.toNat = 2) (h : s.lengthValid = false) :
    acceptFrame t s = s.raise .length := by
  rw [acceptFrame_eq_ite, if_neg (by omega), if_neg (by omega), if_pos ⟨ht, by simp [h]⟩]

/-! What a raised error leaves: STATUS with the error's code, and every other part of the state as it was
(60_exceptions.md R226). -/

theorem exec_frameInstr_of_raise {e : ErrorKind} (hb : s.busy = false)
    (h : acceptFrame t s.beginCommand = s.beginCommand.raise e) :
    exec (frameInstr t) s = .next { s with ovr := false, err := errorCode e, done := true } := by
  rw [exec_frameInstr, acceptCommand_idle hb, h]
  rfl

theorem exec_frameInstr_wrong_shape (hb : s.busy = false) (ht : t.toNat < 2) (h : s.shapeValid = false) :
    exec (frameInstr t) s = .next { s with ovr := false, err := 1#4, done := true } :=
  exec_frameInstr_of_raise hb (acceptFrame_wrong_shape ht h)

theorem exec_frameInstr_wrong_length (hb : s.busy = false) (ht : t.toNat = 2) (h : s.lengthValid = false) :
    exec (frameInstr t) s = .next { s with ovr := false, err := 2#4, done := true } :=
  exec_frameInstr_of_raise hb (acceptFrame_wrong_length ht h)

theorem exec_frameInstr_unsupported (hb : s.busy = false) (ht : 2 < t.toNat) :
    exec (frameInstr t) s = .next { s with ovr := false, err := 3#4, done := true } :=
  exec_frameInstr_of_raise hb (acceptFrame_unsupported ht _)

end

/-- Settles O16: U8 and FLOAT are the element types below 2, whose acceptance checks the shape. -/
theorem wrongShapeRaisesShape : Obligations.WrongShapeRaisesShape := by
  intro s hb hwrong
  have hshape : s.shapeValid = false := State.shapeValid_eq_false_iff.2 hwrong
  exact ⟨exec_frameInstr_wrong_shape (t := 0#4) hb (by decide) hshape,
    exec_frameInstr_wrong_shape (t := 1#4) hb (by decide) hshape⟩

/-- Settles O8: a CMD write runs what its word decodes to, and an idle core raises ILLEGAL_CMD for an illegal one. -/
theorem illegalWordRaisesIllegalCmd : Obligations.IllegalWordRaisesIllegalCmd := by
  intro s w why hb hw
  rw [performAccess_cmd_of_illegal hw, illegalCommand_idle hb]

/-- Settles O17: RAW is the element type 2, whose acceptance checks the length. -/
theorem wrongLengthRaisesLength : Obligations.WrongLengthRaisesLength := by
  intro s hb hlen
  have hinvalid : s.lengthValid = false := State.lengthValid_eq_false_iff.2 hlen
  exact exec_frameInstr_wrong_length (t := 2#4) hb rfl hinvalid

/-- The element types 3..15, which the core does not support (60_exceptions.md R223). -/
def unsupportedEtypes : List (BitVec 4) :=
  (List.range' 3 13).map (BitVec.ofNat 4)

theorem two_lt_of_mem_unsupportedEtypes : ∀ t ∈ unsupportedEtypes, 2 < t.toNat := by decide

/-- Settles O18: the listed instructions are those of the unsupported element types, rejected before any check of the
descriptor. -/
theorem unsupportedFormatsRaiseUnsupported : Obligations.UnsupportedFormatsRaiseUnsupported := by
  refine (List.forall_mem_map (l := unsupportedEtypes) (f := frameInstr)).2 ?_
  intro t ht s hb
  exact exec_frameInstr_unsupported hb (two_lt_of_mem_unsupportedEtypes t ht)

end Sys2Proof.Machine
end

section
/-! Reset: every register at its reset value, and the only access that stops a running job
(70_reset_and_hazards.md R250, R251). -/

namespace Sys2Proof.Machine

/-! The registers after reset. -/

theorem State.readReg_reset (r : Reg) : State.reset.readReg r = 0#32 := by
  cases r <;> decide

/-- Power-on is a reset: both leave the same register window (70_reset_and_hazards.md R253). -/
theorem State.readReg_doReset (s : State) (r : Reg) : s.doReset.readReg r = State.reset.readReg r := by
  cases r <;> rfl

/-- The sequencer is enabled only while a job runs (42_frame_packer.md R181). -/
theorem nextMover_ne_sequencer {s : State} (h : s.busy = false) : nextMover s ≠ some .sequencer := by
  cases hp : s.pending <;> simp [nextMover, hp, h]

/-! A running job under each access: the busy lock turns commands and encoder writes away, and no other write reaches BUSY. -/

@[simp] theorem plainWrite_busy (r : Reg) (v : Word) (s : State) : (plainWrite r v s).busy = s.busy := by
  rcases plainWrite_cases r v s with ⟨-, -, e⟩ | ⟨-, e⟩ <;> simp [e]

@[simp] theorem srcWrite_busy (a : BitVec 32) (b : Byte) (s : State) : (srcWrite a b s).busy = s.busy := by
  rcases srcWrite_cases a b s with ⟨-, e⟩ | ⟨-, -, e⟩ | ⟨-, -, e⟩ <;> simp [e]

theorem CommandEffect.keeps_busy {s t : State} (h : CommandEffect s t) (hb : s.busy = true) : t.busy = true := by
  rw [h.eq_setOvr hb, State.setOvr_busy, hb]

theorem exec_keeps_busy {i : Instr} {s t : State} (h : exec i s = .next t) (hb : s.busy = true) : t.busy = true := by
  obtain ⟨u, hu, hcases⟩ := exec_cases i s
  obtain rfl : u = t := by simpa [hu] using h
  obtain ⟨rep, -, rfl⟩ | heff := hcases
  · exact hb
  · exact heff.keeps_busy hb

theorem performAccess_keeps_busy {a : HostAccess} {s t : State} (ha : a ≠ .reset) (h : performAccess a s = .next t)
    (hb : s.busy = true) : t.busy = true := by
  obtain ⟨u, hu, hcases⟩ := performAccess_cases a s
  obtain rfl : u = t := by simpa [hu] using h
  obtain ⟨r, rfl⟩ | ⟨i, v, ins, -, -, hexec⟩ | ⟨v, why, -, -, rfl⟩ | ⟨i, v, -, -, -, rfl⟩ | ⟨ad, b, -, rfl⟩ |
    ⟨hreset, -⟩ := hcases
  · exact hb
  · exact exec_keeps_busy hexec hb
  · exact (illegalCommand_effect s).keeps_busy hb
  · rw [plainWrite_busy, hb]
  · rw [srcWrite_busy, hb]
  · exact absurd hreset ha

/-- Settles O32: power-on and RESET leave the same registers, and every access but RESET keeps BUSY set. -/
theorem resetSetsEveryRegister : Obligations.ResetSetsEveryRegister := by
  refine ⟨?_, fun s => ⟨⟨_, rfl⟩, fun a t ha h hb => performAccess_keeps_busy ha h hb⟩⟩
  rintro t (rfl | ⟨s, h⟩)
  · exact ⟨fun i => State.readReg_reset _, rfl, rfl, rfl, rfl, rfl, rfl, rfl, nextMover_ne_sequencer rfl⟩
  · obtain rfl : s.doReset = t := Host.Outcome.next.inj h
    exact ⟨fun i => (s.readReg_doReset _).trans (State.readReg_reset _), rfl, rfl, rfl, rfl, rfl, rfl, rfl,
      nextMover_ne_sequencer rfl⟩

end Sys2Proof.Machine
end

section
/-! The decoder and the encoder (30_encoding.md R95 to R102): which words decode to which instruction, and that decoding and
encoding invert each other. -/

namespace Sys2Proof.Machine

/-! The fixed bits of a word. -/

/-- A mask of one field keeps the field at its place. -/
theorem and_fieldMask (w : Word) (k n : Nat) :
    w &&& (BitVec.allOnes n).setWidth 32 <<< k = (w.extractLsb' k n).setWidth 32 <<< k := by
  ext i hi
  by_cases hk : k ≤ i
  · by_cases hn : i - k < n
    · simp [hk, hn, Nat.not_lt.2 hk, hi, BitVec.getLsbD_eq_getElem]
    · simp [hn]
  · simp [Nat.lt_of_not_le hk]

theorem extractLsb'_field {k n : Nat} (hkn : k + n ≤ 32) (x : BitVec n) :
    ((x.setWidth 32 <<< k : Word)).extractLsb' k n = x := by
  ext i hi
  have hlt : k + i < 32 ∧ i < 32 := by omega
  simp [hlt, hi, BitVec.getLsbD_eq_getElem]

/-- A field has a value exactly when the mask of its bits leaves that value at the field's place. -/
theorem extractLsb'_eq_iff {k n : Nat} (hkn : k + n ≤ 32) {w : Word} {x : BitVec n} :
    w.extractLsb' k n = x ↔ w &&& (BitVec.allOnes n).setWidth 32 <<< k = x.setWidth 32 <<< k := by
  rw [and_fieldMask]
  refine ⟨fun h => h ▸ rfl, fun h => ?_⟩
  rw [← extractLsb'_field hkn (w.extractLsb' k n), h, extractLsb'_field hkn]

theorem opcode_eq_iff {w : Word} {c : Byte} : opcode w = c ↔ w &&& 0xFF000000#32 = c.setWidth 32 <<< 24 :=
  extractLsb'_eq_iff (by decide)

/-- The opcode has a value and reserved bits below it are zero exactly when the mask of both leaves the opcode alone. -/
theorem opcode_and_reserved_iff {w m : Word} {c : Byte} (hm : 0xFF000000#32 &&& m = 0#32) :
    (opcode w = c ∧ w &&& m = 0#32) ↔ w &&& (0xFF000000#32 ||| m) = c.setWidth 32 <<< 24 := by
  have hopcode : (0xFF000000#32 ||| m) &&& 0xFF000000#32 = 0xFF000000#32 := by
    rw [BitVec.and_or_distrib_right, BitVec.and_self, BitVec.and_comm m, hm, BitVec.or_zero]
  have hreserved : (0xFF000000#32 ||| m) &&& m = m := by
    rw [BitVec.and_or_distrib_right, BitVec.and_self, hm, BitVec.zero_or]
  have hc : c.setWidth 32 <<< 24 &&& 0xFF000000#32 = c.setWidth 32 <<< 24 :=
    opcode_eq_iff.1 (extractLsb'_field (by decide) c)
  constructor
  · rintro ⟨h, h0⟩
    rw [BitVec.and_or_distrib_left, opcode_eq_iff.1 h, h0, BitVec.or_zero]
  · intro h
    rw [opcode_eq_iff]
    constructor
    · rw [← hopcode, ← BitVec.and_assoc, h, hc]
    · rw [← hreserved, ← BitVec.and_assoc, h, ← hc, BitVec.and_assoc, hm, BitVec.and_zero]

/-- A word whose low 24 bits are zero is its opcode at its place. -/
theorem opcode_and_low_iff {w : Word} {c : Byte} :
    (opcode w = c ∧ w.extractLsb' 0 24 = 0#24) ↔ w = c.setWidth 32 <<< 24 := by
  have hmask : 0xFF000000#32 ||| 0x00FFFFFF#32 = BitVec.allOnes 32 := by decide
  have hlow : w.extractLsb' 0 24 = 0#24 ↔ w &&& 0x00FFFFFF#32 = 0#32 := extractLsb'_eq_iff (by decide) (x := 0#24)
  rw [hlow, opcode_and_reserved_iff (by decide), hmask, BitVec.and_allOnes]

/-! The rows of the opcode table. -/

/-- Which command words decode to an instruction, and to which (30_encoding.md R95 to R99). -/
theorem decodeCmd_eq_instr_iff {w : Word} {i : Instr} : decodeCmd w = .instr i ↔
    (w = 0x00000000#32 ∧ i = .nop) ∨
    (w &&& 0xFF000000#32 = 0x01000000#32 ∧ i = .cvt888 (w.extractLsb' 16 8) (w.extractLsb' 8 8) (w.extractLsb' 0 8)) ∨
    (w = 0x02000000#32 ∧ i = .cvtf) ∨
    (w &&& 0xFFE0C0E0#32 = 0x03000000#32 ∧
      i = .pack565 (w.extractLsb' 16 5) (w.extractLsb' 8 6) (w.extractLsb' 0 5)) ∨
    (w &&& 0xFFFFFFF0#32 = 0x10000000#32 ∧ i = frameInstr (w.extractLsb' 0 4)) := by
  have hmask (m : Word) (c : Byte) (hm : 0xFF000000#32 &&& m = 0#32) :=
    (opcode_and_reserved_iff (w := w) (m := m) (c := c) hm).symm
  have hnop : w = 0x00000000#32 ↔ opcode w = 0#8 ∧ w.extractLsb' 0 24 = 0#24 := (opcode_and_low_iff (c := 0#8)).symm
  have hcvt888 : w &&& 0xFF000000#32 = 0x01000000#32 ↔ opcode w = 1#8 := (opcode_eq_iff (c := 1#8)).symm
  have hcvtf : w = 0x02000000#32 ↔ opcode w = 2#8 ∧ w.extractLsb' 0 24 = 0#24 := (opcode_and_low_iff (c := 2#8)).symm
  have hpack : w &&& 0xFFE0C0E0#32 = 0x03000000#32 ↔ opcode w = 3#8 ∧ w &&& 0x00E0C0E0#32 = 0#32 :=
    hmask 0x00E0C0E0#32 3#8 (by decide)
  have hframe : w &&& 0xFFFFFFF0#32 = 0x10000000#32 ↔ opcode w = 0x10#8 ∧ w.extractLsb' 4 20 = 0#20 := by
    rw [extractLsb'_eq_iff (by decide)]
    exact hmask 0x00FFFFF0#32 0x10#8 (by decide)
  rw [hnop, hcvt888, hcvtf, hpack, hframe]
  unfold decodeCmd unlessReserved
  split_ifs
  all_goals simp_all [eq_comm (a := i)]

/-- Settles O4: the words of each row are those its mask singles out. -/
theorem legalWordsMatchTheTable : Obligations.LegalWordsMatchTheTable := by
  intro w
  simp only [decodeCmd_eq_instr_iff, exists_or, exists_and_left, exists_eq, and_true]

/-! Encoding inverts decoding. -/

/-- A word is its opcode's bits and its low three bytes. -/
theorem eq_or_bytes (w : Word) :
    w = (w &&& 0xFF000000#32) ||| ((w.extractLsb' 16 8).setWidth 32 <<< 16) |||
      ((w.extractLsb' 8 8).setWidth 32 <<< 8) ||| (w.extractLsb' 0 8).setWidth 32 := by
  ext i hi
  interval_cases i <;> simp

/-- A word is the bits of PACK565's mask and PACK565's three fields. -/
theorem eq_or_pack565_fields (w : Word) :
    w = (w &&& 0xFFE0C0E0#32) ||| ((w.extractLsb' 16 5).setWidth 32 <<< 16) |||
      ((w.extractLsb' 8 6).setWidth 32 <<< 8) ||| (w.extractLsb' 0 5).setWidth 32 := by
  ext i hi
  interval_cases i <;> simp

/-- A word is its bits above ETYPE and ETYPE. -/
theorem eq_or_etype (w : Word) : w = (w &&& 0xFFFFFFF0#32) ||| (w.extractLsb' 0 4).setWidth 32 := by
  ext i hi
  interval_cases i <;> simp

/-- Settles O3: in each row the mask's bits and the operands make up the whole word. -/
theorem encodeInvertsDecode : Obligations.EncodeInvertsDecode := by
  intro w i h
  obtain ⟨rfl, rfl⟩ | ⟨hw, rfl⟩ | ⟨rfl, rfl⟩ | ⟨hw, rfl⟩ | ⟨hw, rfl⟩ := decodeCmd_eq_instr_iff.1 h
  · rfl
  · exact Prod.ext rfl (hw ▸ eq_or_bytes w).symm
  · rfl
  · exact Prod.ext rfl (hw ▸ eq_or_pack565_fields w).symm
  · rw [encode, encodeIndex_frameInstr, encodeWord_frameInstr]
    exact Prod.ext rfl (hw ▸ eq_or_etype w).symm

/-! Decoding inverts encoding. -/

theorem decodeCmd_encodeWord_cvt888 (r g b : Byte) :
    decodeCmd (encodeWord (.cvt888 r g b)) = .instr (.cvt888 r g b) := by
  refine decodeCmd_eq_instr_iff.2 (.inr (.inl ⟨Laws.TableRow.cvt888 r g b, ?_⟩))
  congr 1
  all_goals
    ext i hi
    interval_cases i <;> simp [encodeWord]

theorem decodeCmd_encodeWord_pack565 (r5 : BitVec 5) (g6 : BitVec 6) (b5 : BitVec 5) :
    decodeCmd (encodeWord (.pack565 r5 g6 b5)) = .instr (.pack565 r5 g6 b5) := by
  refine decodeCmd_eq_instr_iff.2 (.inr (.inr (.inr (.inl ⟨Laws.TableRow.pack565 r5 g6 b5, ?_⟩))))
  congr 1
  all_goals
    ext i hi
    interval_cases i <;> simp [encodeWord]

/-- Settles O2: the commands with operands keep their row's bits and fields, the others have one closed word each. -/
theorem decodeInvertsEncode : Obligations.DecodeInvertsEncode := by
  intro i
  cases i with
  | cvt888 r g b => exact congrArg some (decodeCmd_encodeWord_cvt888 r g b)
  | pack565 r5 g6 b5 => exact congrArg some (decodeCmd_encodeWord_pack565 r5 g6 b5)
  | keydec rep =>
    refine (decodeWrite_keyIn _).trans ?_
    rw [encode, encodeWord, BitVec.extractLsb'_setWidth_of_le (by decide), BitVec.extractLsb'_eq_self]
  | _ => decide

/-- Settles O1, by evaluating the decoder on each word. -/
theorem specWordsDecodeAsWritten : Obligations.SpecWordsDecodeAsWritten := by
  unfold Obligations.SpecWordsDecodeAsWritten
  decide

end Sys2Proof.Machine
end

section
/-! The invariant of the core: it holds after reset, and every host access and every sequencer step keep it
(10_state.md R28, R30, R31, R37, R41; 42_frame_packer.md R181, R186, R188). -/

namespace Sys2Proof.Machine

/-! The frame's header and tables are the same in every state. -/

theorem frameByte_fixed (P : Params) (s t : State) {p : Nat} (hp : p < 512) : frameByte P t p = frameByte P s p := by
  simp [frameByte, hp]

/-- What FVALID promises rests on FOUT alone. -/
theorem FrameInv.congr {s t : State} (h : FrameInv s) (hv : t.fvalid = true → s.fvalid = true) (hf : t.fout = s.fout)
    (hr : t.resets = s.resets) : FrameInv t := by
  intro htv
  obtain ⟨hdef, hfixed⟩ := h (hv htv)
  refine ⟨fun p hp => hf ▸ hdef p hp, fun p hp => ?_⟩
  rw [State.foutByte_congr hf hr, hfixed p hp, frameByte_fixed _ t s hp]

/-! Reset. -/

/-- The reset state has the invariant, whatever the model's own counters and the host's fields hold. -/
theorem inv_of_reset (resets draws turns : Nat) (turn : Agent) (pending : List HostOp) (reads : List ReadValue) :
    Inv { State.reset with
      resets := resets, draws := draws, turns := turns, turn := turn, pending := pending, reads := reads } where
  status := ⟨fun hb => absurd hb Bool.false_ne_true, fun he => absurd rfl he, Nat.zero_le 4⟩
  pos := ⟨Nat.zero_le _, fun hb => absurd hb Bool.false_ne_true⟩
  halves :=
    have hzero : (0#32 : Word).extractLsb' 16 16 = 0#16 := by decide
    ⟨hzero, hzero⟩
  memory := ⟨Memory.wf_nil _, Memory.wf_nil _⟩
  descriptor := fun hb => absurd hb Bool.false_ne_true
  progress := fun hb => absurd hb Bool.false_ne_true
  frame := fun hv => absurd hv Bool.false_ne_true

/-- Settles O34: the reset state is the one whose counters are 0 and whose host has nothing to do. -/
theorem resetStateHasInvariant : Obligations.ResetStateHasInvariant :=
  inv_of_reset 0 0 0 .host [] []

section
variable {s t : State}

/-! What an access may change while a job runs. -/

/-- Changes to KEY_IN and to the host's own fields keep the invariant, and so does setting OVR while a job runs. -/
theorem Inv.host_fields (h : Inv s) {keyIn : Word} (hkey : keyIn.extractLsb' 16 16 = 0#16) {ovr : Bool}
    (hovr : ovr = s.ovr ∨ s.busy = true) (turns : Nat) (turn : Agent) (pending : List HostOp) (reads : List ReadValue) :
    Inv { s with keyIn := keyIn, ovr := ovr, turns := turns, turn := turn, pending := pending, reads := reads } where
  status := by
    obtain ⟨hrun, herr, hcode⟩ := h.status
    refine ⟨hrun, fun he => ?_, hcode⟩
    obtain ⟨hidle, hdone, ho⟩ := herr he
    refine ⟨hidle, hdone, ?_⟩
    obtain e | hb := hovr
    · exact e.trans ho
    · simp [hidle] at hb
  pos := h.pos
  halves := ⟨h.halves.1, hkey⟩
  memory := h.memory
  descriptor := h.descriptor
  progress := by
    intro hb p hp
    have hbyte := h.progress hb p hp
    rwa [← frameByte_congr (s := s) (t := { s with
      keyIn := keyIn, ovr := ovr, turns := turns, turn := turn, pending := pending, reads := reads }) rfl rfl rfl rfl]
      at hbyte
  frame := h.frame.congr id rfl rfl

theorem Inv.setOvr (h : Inv s) (hb : s.busy = true) : Inv s.setOvr :=
  h.host_fields h.halves.2 (.inr hb) s.turns s.turn s.pending s.reads

theorem Inv.storeKeyIn (h : Inv s) (rep : Half) : Inv (s.storeKeyIn rep) := by
  have hhigh : (rep.setWidth 32).extractLsb' 16 16 = 0#16 := by
    ext i hi
    simp
  exact h.host_fields hhigh (.inl rfl) s.turns s.turn s.pending s.reads

theorem Inv.record (h : Inv s) (r : ReadValue) : Inv (s.record r) :=
  h.host_fields h.halves.2 (.inl rfl) s.turns s.turn s.pending (s.reads ++ [r])

theorem Inv.drawTurn (h : Inv s) : Inv s.drawTurn :=
  h.host_fields h.halves.2 (.inl rfl) (s.turns + 1) (Config.freeTurn s.turns) s.pending s.reads

theorem Inv.takeOp (h : Inv s) : Inv s.takeOp :=
  h.host_fields h.halves.2 (.inl rfl) s.turns s.turn (pendingAfter s) s.reads

/-! An idle core. -/

/-- With no job running, the descriptor and the frame's source may change: no byte of FOUT is due. -/
theorem Inv.of_idle (h : Inv s) (hb : t.busy = false) (hstatus : StatusInv t) (hpos : t.pos = s.pos)
    (hhalves : HalfRegInv t) (hsrc : Memory.wf Config.srcBytes t.src) (hfout : t.fout = s.fout)
    (hresets : t.resets = s.resets) (hfvalid : t.fvalid = s.fvalid) : Inv t where
  status := hstatus
  pos := ⟨hpos ▸ h.pos.1, fun hrun => by simp [hb] at hrun⟩
  halves := hhalves
  memory := ⟨hsrc, hfout ▸ h.memory.2⟩
  descriptor := fun hrun => by simp [hb] at hrun
  progress := fun hrun => by simp [hb] at hrun
  frame := h.frame.congr (fun hv => hfvalid ▸ hv) hfout hresets

/-- A finished command leaves DONE set, OVR clear and one of the error codes (10_state.md R28, R30). -/
theorem statusInv_of_finished (hb : s.busy = false) (hd : s.done = true) (ho : s.ovr = false) (he : s.err.toNat ≤ 4) :
    StatusInv s :=
  ⟨fun hrun => by simp [hb] at hrun, fun _ => ⟨hb, hd, ho⟩, he⟩

theorem errorCode_le (e : ErrorKind) : (errorCode e).toNat ≤ 4 := by
  cases e <;> decide

theorem Inv.finish (h : Inv s) (hb : s.busy = false) : Inv s.beginCommand.finish :=
  h.of_idle hb (statusInv_of_finished hb rfl rfl (Nat.zero_le 4)) rfl h.halves h.memory.1 rfl rfl rfl

theorem Inv.raise (h : Inv s) (hb : s.busy = false) (e : ErrorKind) : Inv (s.beginCommand.raise e) :=
  h.of_idle hb (statusInv_of_finished hb rfl rfl (errorCode_le e)) rfl h.halves h.memory.1 rfl rfl rfl

theorem halfRegInv_deliver (h : HalfRegInv s) (w : Half) : HalfRegInv (s.deliver w) := by
  refine ⟨?_, h.2⟩
  ext i hi
  simp

theorem Inv.deliver (h : Inv s) (hb : s.busy = false) (w : Half) : Inv (s.beginCommand.deliver w) :=
  h.of_idle hb (statusInv_of_finished hb rfl rfl (Nat.zero_le 4)) rfl
    (halfRegInv_deliver (s := s.beginCommand) h.halves w) h.memory.1 rfl rfl rfl

theorem Inv.nextDraw_deliver (h : Inv s) (hb : s.busy = false) (w : Half) : Inv (s.beginCommand.nextDraw.deliver w) :=
  h.of_idle hb (statusInv_of_finished hb rfl rfl (Nat.zero_le 4)) rfl
    (halfRegInv_deliver (s := s.beginCommand.nextDraw) h.halves w) h.memory.1 rfl rfl rfl

theorem StatusInv.congr (h : StatusInv s) (hb : t.busy = s.busy) (hd : t.done = s.done) (hv : t.fvalid = s.fvalid)
    (ho : t.ovr = s.ovr) (he : t.err = s.err) : StatusInv t := by
  simpa only [StatusInv, hb, hd, hv, ho, he] using h

theorem Inv.storeReg (h : Inv s) (hb : s.busy = false) (r : Reg) (v : Word) : Inv (s.storeReg r v) :=
  h.of_idle (by simpa) (h.status.congr (by simp) (by simp) (by simp) (by simp) (by simp)) (by simp)
    (by simpa [HalfRegInv] using h.halves) (by simpa using h.memory.1) (by simp) (by simp) (by simp)

theorem Inv.putSrc (h : Inv s) (hb : s.busy = false) {a : Nat} (ha : a < Config.srcBytes) (b : Byte) :
    Inv (s.putSrc a b) :=
  h.of_idle hb h.status rfl h.halves (Memory.wf_write h.memory.1 ha b) rfl rfl rfl

/-- A job starts with a valid descriptor, no byte written and no error (42_frame_packer.md R186). -/
theorem Inv.startJob (h : Inv s) {j : JobEtype}
    (hj : (j = .raw ∧ s.lengthValid = true) ∨ (j ≠ .raw ∧ s.shapeValid = true)) : Inv (s.beginCommand.startJob j) where
  status := ⟨fun _ => ⟨rfl, rfl, rfl⟩, fun he => absurd rfl he, Nat.zero_le 4⟩
  pos := ⟨Nat.zero_le _, fun _ => (by decide : 0 < frameBytes)⟩
  halves := h.halves
  memory := h.memory
  descriptor := fun _ => by
    obtain ⟨rfl, hl⟩ | ⟨hne, hs⟩ := hj
    · exact hl
    · cases j with
      | u8 => exact hs
      | float => exact hs
      | raw => exact absurd rfl hne
  progress := fun _ p hp => absurd hp (Nat.not_lt_zero p)
  frame := fun hv => absurd hv Bool.false_ne_true

/-! Every access. -/

theorem Inv.of_commandEffect (h : Inv s) (he : CommandEffect s t) : Inv t := by
  rcases he with ⟨hb, rfl⟩ | ⟨hb, rfl | ⟨w, rfl⟩ | ⟨w, rfl⟩ | ⟨e, rfl⟩ | ⟨j, rfl, hj⟩⟩
  · exact h.setOvr hb
  · exact h.finish hb
  · exact h.deliver hb w
  · exact h.nextDraw_deliver hb w
  · exact h.raise hb e
  · exact h.startJob hj

theorem Inv.exec (h : Inv s) {i : Instr} (he : exec i s = .next t) : Inv t := by
  obtain ⟨u, hu, hcases⟩ := exec_cases i s
  obtain rfl : u = t := by simpa [hu] using he
  obtain ⟨rep, -, rfl⟩ | heff := hcases
  · exact h.storeKeyIn rep
  · exact h.of_commandEffect heff

/-- The registers that the busy lock does not cover store no plain write (40_command_interface.md R124). -/
theorem State.storeReg_unlocked {r : Reg} (hr : lockedWhenBusy r = false) (v : Word) (s : State) : s.storeReg r v = s := by
  cases r
  case status | result | keyIn | keyOut => rfl
  all_goals exact absurd hr (by decide)

theorem Inv.plainWrite (h : Inv s) (r : Reg) (v : Word) : Inv (plainWrite r v s) := by
  obtain ⟨-, hb, e⟩ | ⟨hr | hb, e⟩ := plainWrite_cases r v s
  · exact e ▸ h.setOvr hb
  · rw [e, State.storeReg_unlocked hr]
    exact h
  · exact e ▸ h.storeReg hb r v

theorem Inv.srcWrite (h : Inv s) (a : BitVec 32) (b : Byte) : Inv (srcWrite a b s) := by
  obtain ⟨hb, e⟩ | ⟨hb, ha, e⟩ | ⟨-, -, e⟩ := srcWrite_cases a b s
  · exact e ▸ h.setOvr hb
  · exact e ▸ h.putSrc hb ha b
  · exact e.symm ▸ h

theorem Inv.performAccess (h : Inv s) {a : HostAccess} (ha : performAccess a s = .next t) : Inv t := by
  obtain ⟨u, hu, hcases⟩ := performAccess_cases a s
  obtain rfl : u = t := by simpa [hu] using ha
  obtain ⟨r, rfl⟩ | ⟨i, v, ins, -, -, hexec⟩ | ⟨v, why, -, -, rfl⟩ | ⟨i, v, -, -, -, rfl⟩ | ⟨ad, b, -, rfl⟩ |
    ⟨-, rfl⟩ := hcases
  · exact h.record r
  · exact h.exec hexec
  · exact h.of_commandEffect (illegalCommand_effect s)
  · exact h.plainWrite _ v
  · exact h.srcWrite ad b
  · exact inv_of_reset _ _ _ _ _ _

/-! The sequencer. -/

/-- POS does not wrap while a job runs: the frame is shorter than 2^18 bytes. -/
theorem toNat_pos_add_one {p : BitVec 18} (hp : p.toNat < frameBytes) : (p + 1#18).toNat = p.toNat + 1 := by
  unfold frameBytes at hp
  rw [BitVec.toNat_add, BitVec.toNat_ofNat]
  omega

/-- The byte at POS is written, those before it stay: all bytes before the next POS are the frame's. -/
theorem ProgressInv.read_seqStep (h : ProgressInv s) (hb : s.busy = true) {p : Nat} (hp : p < s.pos.toNat + 1) :
    Memory.read (Machine.seqStep Config.params s).fout p = some (frameByte Config.params s p) := by
  rw [seqStep_fout, Memory.read_write]
  split
  case isTrue heq => rw [heq]
  case isFalse hne => exact h hb p (by omega)

theorem seqStep_keeps (P : Params) (s : State) :
    (seqStep P s).err = s.err ∧ (seqStep P s).result = s.result ∧ (seqStep P s).keyIn = s.keyIn ∧
    (seqStep P s).shapeValid = s.shapeValid ∧ (seqStep P s).lengthValid = s.lengthValid := by
  simp [seqStep, State.shapeValid, State.lengthValid]

/-- One byte is written; at the last one the job's promises become FVALID's (42_frame_packer.md R181, R188). -/
theorem Inv.seqStep (h : Inv s) (hb : s.busy = true) : Inv (seqStep Config.params s) := by
  have hlt := h.pos.2 hb
  have hpos := toNat_pos_add_one hlt
  obtain ⟨hdone, hfvalid, herr⟩ := h.status.1 hb
  have hread {p : Nat} (hp : p < s.pos.toNat + 1) := h.progress.read_seqStep hb hp
  have hend : (Machine.seqStep Config.params s).busy = true ↔ s.pos.toNat + 1 ≠ frameBytes := by simp [hpos, hb]
  obtain ⟨hse, hsr, hsk, hss, hsl⟩ := seqStep_keeps Config.params s
  exact {
    status := by
      simp [StatusInv, seqStep_busy, seqStep_done, seqStep_fvalid, hse, hpos, hb, herr, hdone, hfvalid]
    pos := by
      rw [PosInv, hend, seqStep_pos, hpos]
      omega
    halves := by
      rw [HalfRegInv, hsr, hsk]
      exact h.halves
    memory := by
      rw [MemoryInv, seqStep_src, seqStep_fout]
      exact ⟨h.memory.1, Memory.wf_write h.memory.2 hlt _⟩
    descriptor := by
      rw [DescriptorInv, seqStep_jobEtype, hss, hsl]
      exact fun _ => h.descriptor hb
    progress := by
      intro _ p hp
      rw [seqStep_pos, hpos] at hp
      rw [seqStep_frameByte, hread hp]
    frame := by
      intro hv
      have hlast : s.pos.toNat + 1 = frameBytes := by simpa [hpos, hfvalid] using hv
      refine ⟨fun p hp => ?_, fun p hp => ?_⟩
      · rw [hread (hlast ▸ hp)]
        rfl
      · have hp' : p < s.pos.toNat + 1 := by rw [hlast, frameBytes]; omega
        rw [State.foutByte, hread hp', seqStep_frameByte] }

end

/-- Settles O41: a step is nothing, one access in the state without its operation, or one sequencer step, and each keeps the
invariant. -/
theorem stepKeepsInvariant : Obligations.StepKeepsInvariant := by
  intro s t h ht
  obtain ⟨-, -, -, e⟩ | ⟨op, rest, -, -, e⟩ | ⟨-, hb, e⟩ := step_cases s
  · obtain rfl : s = t := Host.Outcome.next.inj (e.symm.trans ht)
    exact h
  · exact h.takeOp.drawTurn.performAccess (e.symm.trans ht)
  · obtain rfl := Host.Outcome.next.inj (e.symm.trans ht)
    exact h.drawTurn.seqStep hb

end Sys2Proof.Machine
end

section
/-! What each command leaves unchanged, and the two ends of the acceptance: a job that starts and a command turned away
(40_command_interface.md R121, R123; 41_quantizer.md R147 to R149; 42_frame_packer.md R183 to R186; 43_key_decoder.md R206). -/

namespace Sys2Proof.Machine

section
variable {s t : State}

/-! The frame of every command. -/

theorem CommandEffect.memory (h : CommandEffect s t) : t.src = s.src ∧ t.fout = s.fout ∧ t.resets = s.resets := by
  rcases h with ⟨-, rfl⟩ | ⟨-, rfl | ⟨w, rfl⟩ | ⟨w, rfl⟩ | ⟨e, rfl⟩ | ⟨j, rfl, -⟩⟩ <;> exact ⟨rfl, rfl, rfl⟩

theorem CommandEffect.sameBytes (h : CommandEffect s t) : SameBytes s t := by
  obtain ⟨hsrc, hfout, hresets⟩ := h.memory
  exact ⟨State.srcByte_congr hsrc hresets, State.foutByte_congr hfout hresets⟩

/-- No command touches KEY_IN, the operands or the host's side. -/
theorem CommandEffect.frame (h : CommandEffect s t) : t.keyIn = s.keyIn ∧ SameOperands s t ∧ SameHost s t := by
  rcases h with ⟨-, rfl⟩ | ⟨-, rfl | ⟨w, rfl⟩ | ⟨w, rfl⟩ | ⟨e, rfl⟩ | ⟨j, rfl, -⟩⟩ <;> simp [SameOperands, SameHost]

/-- A command that starts no job leaves the job's registers and FVALID as they are (60_exceptions.md R226). -/
theorem CommandEffect.sameJob (h : CommandEffect s t) (hbusy : t.busy = s.busy) :
    t.pos = s.pos ∧ t.jobEtype = s.jobEtype ∧ t.fvalid = s.fvalid := by
  rcases h with ⟨-, rfl⟩ | ⟨hb, rfl | ⟨w, rfl⟩ | ⟨w, rfl⟩ | ⟨e, rfl⟩ | ⟨j, rfl, -⟩⟩
  case inr.inr.inr.inr.inr => simp [hb] at hbusy
  all_goals simp

/-- A field that neither being turned away nor the accepted command changes is unchanged by the command. -/
theorem acceptCommand_keeps {α : Type} {op : State → State} (f : State → α) (hovr : f s.setOvr = f s)
    (hop : f (op s.beginCommand) = f s) : f (acceptCommand op s) = f s := by
  obtain ⟨-, e⟩ | ⟨-, e⟩ := acceptCommand_cases op s
  · rw [e, hovr]
  · rw [e, hop]

theorem exec_effect {i : Instr} (h : exec i s = .next t) (hi : ∀ rep, i ≠ .keydec rep) : CommandEffect s t := by
  obtain ⟨u, hu, ⟨rep, rfl, -⟩ | heff⟩ := exec_cases i s
  · exact absurd rfl (hi rep)
  · obtain rfl : u = t := by simpa [hu] using h
    exact heff

end

/-- Settles O22: the three commands deliver a word, which touches RESULT and DONE alone. -/
theorem quantizerFrame : Obligations.QuantizerFrame := by
  intro i s t hi h
  have hbusy : t.busy = s.busy := by
    obtain rfl | ⟨r, g, b, rfl⟩ | ⟨r5, g6, b5, rfl⟩ := hi
    all_goals
      cases h
      exact acceptCommand_keeps State.busy rfl rfl
  have hkeydec : ∀ rep, i ≠ .keydec rep := by
    rintro rep rfl
    simp at hi
  have heff := exec_effect h hkeydec
  obtain ⟨hkey, hops, hhost⟩ := heff.frame
  obtain ⟨hpos, hetype, hfvalid⟩ := heff.sameJob hbusy
  exact ⟨hbusy, hfvalid, hkey, hpos, hetype, hops, heff.sameBytes, hhost⟩

theorem acceptFrame_result (t : BitVec 4) (s : State) : (acceptFrame t s).result = s.result := by
  obtain ⟨e, he⟩ | ⟨j, hj, -⟩ := acceptFrame_cases t s
  · rw [he, State.raise_result]
  · rw [hj, State.startJob_result]

/-- Settles O23: NOP finishes and the unsupported element types raise an error, which touch STATUS alone. -/
theorem statusOnlyFrame : Obligations.StatusOnlyFrame := by
  intro i s t hi h
  obtain ⟨hbusy, hresult⟩ : t.busy = s.busy ∧ t.result = s.result := by
    obtain rfl | hframe := List.mem_cons.1 hi
    · cases h
      exact ⟨acceptCommand_keeps State.busy rfl rfl, acceptCommand_keeps State.result rfl rfl⟩
    · obtain ⟨et, het, rfl⟩ := List.mem_map.1 (show i ∈ unsupportedEtypes.map frameInstr from hframe)
      have haccept := acceptFrame_unsupported (two_lt_of_mem_unsupportedEtypes et het)
      rw [exec_frameInstr] at h
      cases h
      exact ⟨acceptCommand_keeps State.busy rfl (by rw [haccept]; rfl),
        acceptCommand_keeps State.result rfl (by rw [haccept]; rfl)⟩
  have hkeydec : ∀ rep, i ≠ .keydec rep := by
    rintro rep rfl
    simp at hi
  have heff := exec_effect h hkeydec
  obtain ⟨hkey, hops, hhost⟩ := heff.frame
  obtain ⟨hpos, hetype, hfvalid⟩ := heff.sameJob hbusy
  exact ⟨hbusy, hfvalid, hresult, hkey, hpos, hetype, hops, heff.sameBytes, hhost⟩

/-- Settles O24: the acceptance raises an error or starts a job, neither of which touches RESULT. -/
theorem frameCommandFrame : Obligations.FrameCommandFrame := by
  intro i s t hi h
  obtain ⟨et, -, rfl⟩ := List.mem_map.1 (show i ∈ [0#4, 1#4, 2#4].map frameInstr from hi)
  have heff := exec_effect h (frameInstr_ne_keydec et)
  obtain ⟨hkey, hops, hhost⟩ := heff.frame
  have hresult : t.result = s.result := by
    rw [exec_frameInstr] at h
    cases h
    exact acceptCommand_keeps State.result rfl (acceptFrame_result et _)
  exact ⟨hresult, hkey, hops, heff.sameBytes, hhost, heff.sameJob⟩

/-- Settles O25: KEYDEC stores its report, whatever the state. -/
theorem keydecFrame : Obligations.KeydecFrame := by
  intro rep s t h
  obtain rfl : s.storeKeyIn rep = t := Host.Outcome.next.inj h
  exact ⟨rfl, rfl, rfl, rfl, by simp [SameOperands], ⟨fun _ => rfl, fun _ => rfl⟩, by simp [SameHost]⟩

/-! Turned away, and a job that starts. -/

/-- Settles O21: the busy lock covers CMD, and running an instruction is writing its word there. -/
theorem busyCoreTurnsCommandsAway : Obligations.BusyCoreTurnsCommandsAway := by
  intro w s hb
  have hlock : performAccess (.regWr 0#4 w) s = .next s.setOvr := performAccess_locked hb (.inl rfl) w
  exact ⟨hlock, fun i hi => (performAccess_cmd_of_instr hi s).symm.trans hlock⟩

theorem acceptFrame_valid_shape {t : BitVec 4} (ht : t.toNat < 2) {s : State} (h : s.shapeValid = true) :
    acceptFrame t s = s.startJob (if t.toNat = 0 then .u8 else .float) := by
  rw [acceptFrame_eq_ite, if_neg (by omega), if_neg (by simp [h]), if_neg (by omega)]
  obtain h0 | h1 : t.toNat = 0 ∨ t.toNat = 1 := by omega
  · simp [h0]
  · simp [h1]

theorem acceptFrame_valid_length {t : BitVec 4} (ht : t.toNat = 2) {s : State} (h : s.lengthValid = true) :
    acceptFrame t s = s.startJob .raw := by
  rw [acceptFrame_eq_ite]
  simp [ht, h]

/-- Settles O15: with the part of the descriptor its element type needs, each command's acceptance starts the job. -/
theorem validFrameCommandStartsJob : Obligations.ValidFrameCommandStartsJob := by
  intro s hb
  refine ⟨fun h0 h1 h2 h3 => ?_, fun hl => ?_⟩
  · have hshape : s.beginCommand.shapeValid = true := (State.shapeValid_iff s).2 ⟨h0, h1, h2, h3⟩
    constructor
    · rw [show Instr.frameU8 = frameInstr 0#4 from rfl, exec_frameInstr, acceptCommand_idle hb,
        acceptFrame_valid_shape (by decide) hshape]
      rfl
    · rw [show Instr.frameF = frameInstr 1#4 from rfl, exec_frameInstr, acceptCommand_idle hb,
        acceptFrame_valid_shape (by decide) hshape]
      rfl
  · have hlength : s.beginCommand.lengthValid = true := (State.lengthValid_iff s).2 hl
    rw [show Instr.frameRaw = frameInstr 2#4 from rfl, exec_frameInstr, acceptCommand_idle hb,
      acceptFrame_valid_length rfl hlength]
    rfl

end Sys2Proof.Machine
end

section
/-! The host accesses: what register and memory reads return, what a byte write stores, and what no access changes
(20_memory.md R66 to R69, R77; 40_command_interface.md R125, R128; 70_reset_and_hazards.md R250, R252). -/

namespace Sys2Proof.Machine

/-! Register reads. -/

theorem flagAt_eq_ofNat (n : Nat) (b : Bool) : flagAt n b = BitVec.ofNat 32 (if b then 2 ^ n else 0) := by
  cases b
  · rfl
  · simp [flagAt, ofNat_shiftLeft]

/-- STATUS is the sum of its fields, each at its place (40_command_interface.md R125). -/
theorem statusWord_eq_ofNat (s : State) : statusWord s =
    BitVec.ofNat 32 (s.err.toNat * 16 + (if s.ovr then 8 else 0) + (if s.fvalid then 4 else 0) +
      (if s.done then 2 else 0) + (if s.busy then 1 else 0)) := by
  simp only [statusWord, flagAt_eq_ofNat, ← BitVec.ofNat_toNat, ofNat_shiftLeft]
  rw [ofNat_or_ofNat_of_dvd (i := 4) (Nat.dvd_mul_left _ _), ofNat_or_ofNat_of_dvd (i := 3), ofNat_or_ofNat_of_dvd (i := 2),
    ofNat_or_ofNat_of_dvd (i := 1)]
  · rfl
  all_goals
    split_ifs <;> omega

/-- Settles O27: a read records the register's word, and the words of STATUS, KEY_IN and KEY_OUT are these. -/
theorem registerReadsReturn : Obligations.RegisterReadsReturn := by
  intro i s
  have hread : performAccess (.regRd i) s =
      .next { s with reads := s.reads ++ [.reg i (s.readReg (regOfIndex i))] } := rfl
  rw [hread, ← statusWord_eq_ofNat, ← setWidth_extractLsb'_low_half, ← keyOutWord_low_half]
  obtain ⟨⟨n, hn⟩⟩ := i
  interval_cases n <;> rfl

/-! SRC. -/

section
variable {a : BitVec 32} {s : State}

theorem srcWrite_of_busy (hb : s.busy = true) (a : BitVec 32) (b : Byte) : srcWrite a b s = s.setOvr := by
  simp [srcWrite, hb]

theorem srcWrite_in_range (hb : s.busy = false) (ha : a.toNat < Config.srcBytes) (b : Byte) :
    srcWrite a b s = s.putSrc a.toNat b := by
  simp [srcWrite, hb, ha]

theorem srcWrite_out_of_range (hb : s.busy = false) (ha : Config.srcBytes ≤ a.toNat) (b : Byte) :
    srcWrite a b s = s := by
  simp [srcWrite, hb, ha]

theorem srcRead_in_range (ha : a.toNat < Config.srcBytes) : srcRead a s = s.srcByte a.toNat := if_pos ha

theorem srcRead_out_of_range (ha : Config.srcBytes ≤ a.toNat) : srcRead a s = 0#8 := if_neg (Nat.not_lt.2 ha)

end

/-- Settles O29, from the write and the read in range. -/
theorem srcWriteStoresByte : Obligations.SrcWriteStoresByte := by
  intro a b s
  refine ⟨fun hb => congrArg Host.Outcome.next (srcWrite_of_busy hb a b), fun hb ha => ?_, fun ha => ?_⟩
  · refine ⟨_, congrArg Host.Outcome.next (srcWrite_in_range hb ha b), ?_, fun x hx => ?_, rfl⟩
    · rw [State.srcByte_putSrc, if_pos rfl]
    · rw [State.srcByte_putSrc, if_neg hx]
  · rw [← srcRead_in_range ha]
    rfl

/-- Settles O30: outside the range a write is lost and a read returns zero. -/
theorem srcOutOfRange : Obligations.SrcOutOfRange := by
  intro a b s
  by_cases ha : Config.srcBytes ≤ a.toNat
  · rw [if_pos ha, if_pos ha, ← srcRead_out_of_range (s := s) ha]
    exact ⟨fun hb => congrArg Host.Outcome.next (srcWrite_out_of_range hb ha b), rfl⟩
  · have hlt := Nat.lt_of_not_le ha
    rw [if_neg ha, if_neg ha, ← srcRead_in_range hlt]
    exact ⟨fun hb => congrArg Host.Outcome.next (srcWrite_in_range hb hlt b), rfl⟩

/-! FOUT. -/

/-- Settles O31: the three cases of the read. -/
theorem foutReadReturns : Obligations.FoutReadReturns := by
  intro a s
  have hread : foutRead a s = if s.busy = true ∨ 153856 ≤ a.toNat then 0#8 else s.foutByte a.toNat := by
    cases hb : s.busy
    · by_cases ha : a.toNat < 153856
      · simp [foutRead, frameBytes, hb, ha]
      · simp [foutRead, frameBytes, hb, ha, Nat.le_of_not_lt ha]
    · simp [foutRead, hb]
  rw [← hread]
  rfl

/-! What an access can do to the rest of the state. -/

section
variable {a : HostAccess} {s t : State}

/-- The effects of an access: a read is recorded, a command runs, KEY_IN or a plain register or SRC is written, or all is
reset. -/
theorem performAccess_effects (h : performAccess a s = .next t) :
    (∃ r, t = s.record r) ∨ (∃ w, a = .regWr 0#4 w ∧ CommandEffect s t) ∨ (∃ rep, t = s.storeKeyIn rep) ∨
      (∃ r v, t = plainWrite r v s) ∨ (∃ ad b, t = srcWrite ad b s) ∨ (a = .reset ∧ t = s.doReset) := by
  cases a with
  | regRd i => exact .inl ⟨_, (Host.Outcome.next.inj h).symm⟩
  | srcRd ad => exact .inl ⟨_, (Host.Outcome.next.inj h).symm⟩
  | foutRd ad => exact .inl ⟨_, (Host.Outcome.next.inj h).symm⟩
  | srcWr ad b => exact .inr (.inr (.inr (.inr (.inl ⟨ad, b, (Host.Outcome.next.inj h).symm⟩))))
  | reset => exact .inr (.inr (.inr (.inr (.inr ⟨rfl, (Host.Outcome.next.inj h).symm⟩))))
  | regWr i v =>
    by_cases h0 : i = 0#4
    · subst h0
      exact .inr (.inl ⟨v, rfl, performAccess_cmd_effect h⟩)
    · by_cases h14 : i = 14#4
      · subst h14
        rw [performAccess_keyIn] at h
        exact .inr (.inr (.inl ⟨_, (Host.Outcome.next.inj h).symm⟩))
      · rw [performAccess_plain h0 h14] at h
        exact .inr (.inr (.inr (.inl ⟨_, v, (Host.Outcome.next.inj h).symm⟩)))

theorem plainWrite_memory (r : Reg) (v : Word) (s : State) :
    (plainWrite r v s).fout = s.fout ∧ (plainWrite r v s).resets = s.resets := by
  obtain ⟨-, -, e⟩ | ⟨-, e⟩ := plainWrite_cases r v s <;> simp [e]

theorem srcWrite_memory (ad : BitVec 32) (b : Byte) (s : State) :
    (srcWrite ad b s).fout = s.fout ∧ (srcWrite ad b s).resets = s.resets := by
  obtain ⟨-, e⟩ | ⟨-, -, e⟩ | ⟨-, -, e⟩ := srcWrite_cases ad b s <;> simp [e]

/-- The host has no write path to FOUT (20_memory.md R67). -/
theorem performAccess_fout (ha : a ≠ .reset) (h : performAccess a s = .next t) :
    t.fout = s.fout ∧ t.resets = s.resets := by
  obtain ⟨r, rfl⟩ | ⟨w, -, heff⟩ | ⟨rep, rfl⟩ | ⟨r, v, rfl⟩ | ⟨ad, b, rfl⟩ | ⟨hreset, -⟩ := performAccess_effects h
  · exact ⟨rfl, rfl⟩
  · exact heff.memory.2
  · exact ⟨rfl, rfl⟩
  · exact plainWrite_memory r v s
  · exact srcWrite_memory ad b s
  · exact absurd hreset ha

/-- While a job runs a plain write sets OVR at most (40_command_interface.md R123, R124). -/
theorem plainWrite_of_busy (hb : s.busy = true) (r : Reg) (v : Word) :
    plainWrite r v s = s.setOvr ∨ plainWrite r v s = s := by
  obtain ⟨-, -, e⟩ | ⟨hr | hidle, e⟩ := plainWrite_cases r v s
  · exact .inl e
  · exact .inr (e.trans (State.storeReg_unlocked hr v s))
  · simp [hb] at hidle

/-- While a job runs an access but RESET does one of four things (40_command_interface.md R128). -/
theorem performAccess_of_busy (hb : s.busy = true) (ha : a ≠ .reset) (h : performAccess a s = .next t) :
    (∃ r, t = s.record r) ∨ (∃ rep, t = s.storeKeyIn rep) ∨ t = s.setOvr ∨ t = s := by
  obtain ⟨r, rfl⟩ | ⟨w, -, heff⟩ | ⟨rep, rfl⟩ | ⟨r, v, rfl⟩ | ⟨ad, b, rfl⟩ | ⟨hreset, -⟩ := performAccess_effects h
  · exact .inl ⟨r, rfl⟩
  · exact .inr (.inr (.inl (heff.eq_setOvr hb)))
  · exact .inr (.inl ⟨rep, rfl⟩)
  · exact .inr (.inr (plainWrite_of_busy hb r v))
  · exact .inr (.inr (.inl (srcWrite_of_busy hb ad b)))
  · exact absurd hreset ha

end

/-- Settles O35: an access but RESET leaves what FOUT lists and its free contents as they are. -/
theorem hostNeverWritesFout : Obligations.HostNeverWritesFout := by
  intro a s t ha h x
  obtain ⟨hfout, hresets⟩ := performAccess_fout ha h
  exact State.foutByte_congr hfout hresets x

/-- Settles O36: each of the four things an access does while a job runs changes these fields at most. -/
theorem busyHostChangesLittle : Obligations.BusyHostChangesLittle := by
  intro a s t hb ha h
  obtain ⟨r, rfl⟩ | ⟨rep, rfl⟩ | rfl | rfl := performAccess_of_busy hb ha h
  all_goals rfl

/-! Reset. -/

/-- Settles O33: no byte is listed after a reset, so each reads as the free content of that reset. -/
theorem resetStateIsClean : Obligations.ResetStateIsClean := by
  refine ⟨fun i => State.readReg_reset _, rfl, rfl, fun _ => rfl, fun _ => rfl, fun s t h => ?_⟩
  obtain rfl : s.doReset = t := Host.Outcome.next.inj h
  exact ⟨fun _ => rfl, fun _ => rfl, rfl, rfl, rfl, rfl⟩

end Sys2Proof.Machine
end

section
/-! The step of the machine: what each mover's step is, and which steps change BUSY, ERR and RESULT
(00_scope.md R14; 10_state.md R24, R28, R31, R43; 42_frame_packer.md R181). -/

namespace Sys2Proof.Machine

section
variable {s t : State}

/-! The step of each mover. -/

theorem nextMover_eq_host {op : HostOp} {rest : List HostOp} (hp : s.pending = op :: rest)
    (h : s.busy = false ∨ s.turn = .host) : nextMover s = some .host := by
  cases hb : s.busy
  · simp [nextMover, hp, hb]
  · simpa [nextMover, hp, hb] using h

theorem nextMover_eq_sequencer (hb : s.busy = true) (h : s.pending = [] ∨ s.turn = .sequencer) :
    nextMover s = some .sequencer := by
  cases hp : s.pending with
  | nil => simp [nextMover, hp, hb]
  | cons op rest => simpa [nextMover, hp, hb] using h

theorem step_of_host {op : HostOp} {rest : List HostOp} (hp : s.pending = op :: rest)
    (hm : nextMover s = some .host) : step s = performAccess (accessOf op) s.takeOp.drawTurn := by
  simp [step, move, hm, hostMove, hp]

theorem step_of_sequencer (hm : nextMover s = some .sequencer) :
    step s = .next (seqStep Config.params s.drawTurn) := by
  simp [step, move, hm, sequencerMove]

/-- The state in which a plain access is performed. -/
theorem takeOp_drawTurn_access {a : HostAccess} {rest : List HostOp} (hp : s.pending = .access a :: rest) :
    s.takeOp.drawTurn = { s with pending := rest, turn := Config.freeTurn s.turns, turns := s.turns + 1 } := by
  rw [State.takeOp, pendingAfter_access hp]
  rfl

end

/-- A register write that decodes to an instruction runs it. -/
theorem performAccess_of_decodeWrite {i : BitVec 4} {v : Word} {ins : Instr} (h : decodeWrite i v = some (.instr ins))
    (s : State) : performAccess (.regWr i v) s = exec ins s := by
  simp [performAccess, regWrite, h]

/-- Settles O7: the host moves, and its oldest operation is the access. -/
theorem stepRunsDecodedInstruction : Obligations.StepRunsDecodedInstruction := by
  have hstep (s : State) (a : HostAccess) (rest : List HostOp) (hp : s.pending = .access a :: rest)
      (h : s.busy = false ∨ s.turn = .host) : step s = performAccess a
        { s with pending := rest, turn := Config.freeTurn s.turns, turns := s.turns + 1 } := by
    rw [step_of_host hp (nextMover_eq_host hp h), accessOf_access, takeOp_drawTurn_access hp]
  refine ⟨hstep, fun s i v rest ins hp hd h => ?_⟩
  rw [hstep s _ rest hp h, performAccess_of_decodeWrite hd]

/-- POS reaches the end of the frame from the last byte alone, since its 18 bits hold more than the frame. -/
theorem toNat_pos_add_one_eq_frameBytes (p : BitVec 18) : (p + 1#18).toNat = frameBytes ↔ p.toNat + 1 = 153856 := by
  have hp := p.isLt
  rw [BitVec.toNat_add, BitVec.toNat_ofNat, frameBytes]
  omega

/-- The sequencer's step writes one byte and advances POS, and completes the job after the frame's last byte
(42_frame_packer.md R181). -/
theorem seqStep_eq_ite (P : Params) (s : State) : seqStep P s =
    if s.pos.toNat + 1 = 153856 then (s.putFout s.pos.toNat (frameByte P s s.pos.toNat)).advancePos.markComplete
    else (s.putFout s.pos.toNat (frameByte P s s.pos.toNat)).advancePos := by
  simp only [seqStep, State.completeAtEnd, State.advancePos_pos, State.putFout_pos, toNat_pos_add_one_eq_frameBytes]

theorem frameByte_drawTurn (P : Params) (s : State) (p : Nat) : frameByte P s.drawTurn p = frameByte P s p :=
  frameByte_congr (s := s) (t := s.drawTurn) rfl rfl rfl rfl P p

/-- Settles O9: the sequencer's step on the state with the next turn drawn. -/
theorem sequencerStepWritesOneByte : Obligations.SequencerStepWritesOneByte := by
  refine fun s => ⟨nextMover_ne_sequencer, fun hb h => ?_⟩
  rw [step_of_sequencer (nextMover_eq_sequencer hb h), seqStep_eq_ite, frameByte_drawTurn]
  rfl

/-- Settles O58, from the bounds of each phase. -/
theorem phaseFollowsPos : Obligations.PhaseFollowsPos := by
  rintro s ⟨-, hrun⟩
  cases hb : s.busy
  · simp [State.phase, hb]
  · have hlt : s.pos.toNat < 153856 := hrun hb
    have hphase : s.phase = if s.pos.toNat < 16 then .header else if s.pos.toNat < 256 then .tableA
        else if s.pos.toNat < 512 then .tableB else .payload := by simp [State.phase, hb]
    rw [hphase]
    generalize s.pos.toNat = p at hlt ⊢
    refine ⟨?_, ?_, ?_, ?_, ?_⟩ <;> split_ifs <;> simp <;> omega

/-! Which command words change BUSY and RESULT. -/

/-- The words of the quantizer's commands (30_encoding.md R96 to R98). -/
def QuantizerWord (w : Word) : Prop :=
  w &&& 0xFF000000#32 = 0x01000000#32 ∨ w = 0x02000000#32 ∨ w &&& 0xFFE0C0E0#32 = 0x03000000#32

section
variable {s t : State} {w : Word}

/-- Among the command words, those of the quantizer alone may change RESULT and the FRAME words alone BUSY. -/
theorem performAccess_cmd_cases (h : performAccess (.regWr 0#4 w) s = .next t) :
    (QuantizerWord w ∧ t.busy = s.busy) ∨
      (∃ et, w = frameWord et ∧ t = acceptCommand (acceptFrame et) s) ∨
      (t.busy = s.busy ∧ t.result = s.result) := by
  cases hd : decodeCmd w with
  | illegal why =>
    rw [performAccess_cmd_of_illegal hd] at h
    cases h
    exact .inr (.inr ⟨acceptCommand_keeps State.busy rfl rfl, acceptCommand_keeps State.result rfl rfl⟩)
  | instr i =>
    rw [performAccess_cmd_of_instr hd] at h
    obtain ⟨rfl, rfl⟩ | ⟨hw, rfl⟩ | ⟨rfl, rfl⟩ | ⟨hw, rfl⟩ | ⟨hw, rfl⟩ := decodeCmd_eq_instr_iff.1 hd
    · cases h
      exact .inr (.inr ⟨acceptCommand_keeps State.busy rfl rfl, acceptCommand_keeps State.result rfl rfl⟩)
    · cases h
      exact .inl ⟨.inl hw, acceptCommand_keeps State.busy rfl rfl⟩
    · cases h
      exact .inl ⟨.inr (.inl rfl), acceptCommand_keeps State.busy rfl rfl⟩
    · cases h
      exact .inl ⟨.inr (.inr hw), acceptCommand_keeps State.busy rfl rfl⟩
    · rw [exec_frameInstr] at h
      exact .inr (.inl ⟨_, (eq_or_etype w).trans (by rw [hw, frameWord]), (Host.Outcome.next.inj h).symm⟩)

/-- Only a word of FRAME with a valid descriptor starts a job. -/
theorem cmd_starts_job (hb : s.busy = false) (ht : t.busy = true) (h : performAccess (.regWr 0#4 w) s = .next t) :
    ((w = 0x10000000#32 ∨ w = 0x10000001#32) ∧ s.shapeValid = true) ∨ (w = 0x10000002#32 ∧ s.lengthValid = true) := by
  obtain ⟨-, hbusy⟩ | ⟨et, rfl, rfl⟩ | ⟨hbusy, -⟩ := performAccess_cmd_cases h
  · simp [hb, ht] at hbusy
  · rw [acceptCommand_idle hb] at ht
    have hraise (e : ErrorKind) : acceptFrame et s.beginCommand ≠ s.beginCommand.raise e := by
      intro he
      simp [he, hb] at ht
    have hshape (het : et.toNat < 2) : s.shapeValid = true := by
      by_contra hs
      exact hraise .shape (acceptFrame_wrong_shape het (Bool.eq_false_of_not_eq_true hs))
    have hlength (het : et.toNat = 2) : s.lengthValid = true := by
      by_contra hl
      exact hraise .length (acceptFrame_wrong_length het (Bool.eq_false_of_not_eq_true hl))
    have hsupported : ¬2 < et.toNat := fun het => hraise .unsupportedFormat (acceptFrame_unsupported het _)
    obtain rfl | rfl | rfl : et = 0#4 ∨ et = 1#4 ∨ et = 2#4 := by bv_omega
    · exact .inl ⟨.inl (by decide), hshape (by decide)⟩
    · exact .inl ⟨.inr (by decide), hshape (by decide)⟩
    · exact .inr ⟨by decide, hlength rfl⟩
  · simp [hb, ht] at hbusy

theorem cmd_changes_result (hr : t.result ≠ s.result) (h : performAccess (.regWr 0#4 w) s = .next t) :
    QuantizerWord w := by
  obtain ⟨hw, -⟩ | ⟨et, -, rfl⟩ | ⟨-, hres⟩ := performAccess_cmd_cases h
  · exact hw
  · exact absurd (acceptCommand_keeps State.result rfl (acceptFrame_result et _)) hr
  · exact absurd hres hr

/-! Which steps change BUSY, ERR and RESULT. -/

/-- An access that is neither RESET nor an accepted command leaves BUSY, ERR and RESULT. -/
theorem performAccess_keeps {a : HostAccess} (ha : a ≠ .reset) (hcmd : ∀ w, a = .regWr 0#4 w → s.busy = true)
    (h : performAccess a s = .next t) : t.busy = s.busy ∧ t.err = s.err ∧ t.result = s.result := by
  obtain ⟨r, rfl⟩ | ⟨w, hw, heff⟩ | ⟨rep, rfl⟩ | ⟨r, v, rfl⟩ | ⟨ad, b, rfl⟩ | ⟨hreset, -⟩ := performAccess_effects h
  · exact ⟨rfl, rfl, rfl⟩
  · rw [heff.eq_setOvr (hcmd w hw)]
    exact ⟨rfl, rfl, rfl⟩
  · exact ⟨rfl, rfl, rfl⟩
  · obtain ⟨-, -, e⟩ | ⟨-, e⟩ := plainWrite_cases r v s <;> simp [e]
  · obtain ⟨-, e⟩ | ⟨-, -, e⟩ | ⟨-, -, e⟩ := srcWrite_cases ad b s <;> simp [e]
  · exact absurd hreset ha

/-- A step resets or runs an accepted command, the two accesses that clear OVR, or is the sequencer's, or leaves BUSY, ERR and
RESULT. -/
theorem step_effects (h : step s = .next t) :
    (nextMover s = some .host ∧ ∃ a rest, s.pending = .access a :: rest ∧ ClearsOvr s a ∧
      performAccess a s.takeOp.drawTurn = .next t) ∨
    (nextMover s = some .sequencer ∧ s.busy = true ∧ t = seqStep Config.params s.drawTurn) ∨
    (t.busy = s.busy ∧ t.err = s.err ∧ t.result = s.result) := by
  obtain ⟨-, -, -, e⟩ | ⟨op, rest, hm, hp, e⟩ | ⟨hm, hb, e⟩ := step_cases s
  · obtain rfl : s = t := Host.Outcome.next.inj (e.symm.trans h)
    exact .inr (.inr ⟨rfl, rfl, rfl⟩)
  · have hperf := e.symm.trans h
    cases op with
    | wait =>
      cases hperf
      exact .inr (.inr ⟨rfl, rfl, rfl⟩)
    | access a =>
      by_cases hd : ClearsOvr s a
      · exact .inl ⟨hm, a, rest, hp, hd, hperf⟩
      · have hreset : a ≠ .reset := fun ha => hd (.inl ha)
        have hcmd : ∀ w, a = .regWr 0#4 w → s.busy = true := fun w hw =>
          by_contra fun hb => hd (.inr ⟨Bool.eq_false_of_not_eq_true hb, w, hw⟩)
        exact .inr (.inr (performAccess_keeps (s := s.takeOp.drawTurn) hreset hcmd hperf))
  · exact .inr (.inl ⟨hm, hb, (Host.Outcome.next.inj (e.symm.trans h)).symm⟩)

end

/-- Settles O37: an accepted command starts a job, the sequencer's last step ends it, and so does RESET. -/
theorem busyChangesOnlyByJobs : Obligations.BusyChangesOnlyByJobs := by
  intro s t h
  obtain ⟨hm, a, rest, hp, rfl | ⟨hidle, w, rfl⟩, hperf⟩ | ⟨hm, hb, rfl⟩ | ⟨hbusy, -, -⟩ := step_effects h
  · cases hperf
    exact ⟨fun _ ht => absurd ht Bool.false_ne_true, fun _ _ => .inl ⟨hm, rest, hp⟩⟩
  · refine ⟨fun _ ht => ⟨hm, w, rest, hp, ?_⟩, fun hb => by simp [hidle] at hb⟩
    obtain ⟨hw, hs⟩ | ⟨hw, hl⟩ := cmd_starts_job (s := s.takeOp.drawTurn) hidle ht hperf
    · exact .inl ⟨hw, (State.shapeValid_iff s).1 hs⟩
    · exact .inr ⟨hw, (State.lengthValid_iff s).1 hl⟩
  · refine ⟨fun hidle => by simp [hb] at hidle, fun _ ht => .inr ⟨hm, ?_⟩⟩
    have hend : (s.pos + 1#18).toNat = frameBytes := by simpa [hb] using ht
    have hlast := (toNat_pos_add_one_eq_frameBytes s.pos).1 hend
    exact ⟨by omega, by simpa [frameBytes] using hend, by simp [hend], by simp [hend]⟩
  · exact ⟨fun h0 h1 => by simp [h0, h1] at hbusy, fun h1 h0 => by simp [h0, h1] at hbusy⟩

/-- Settles O39: the sequencer raises no error, and no other access changes ERR. -/
theorem errorStaysUntilNextCommand : Obligations.ErrorStaysUntilNextCommand := by
  intro s t h hne
  obtain ⟨hm, a, rest, hp, rfl | ⟨hidle, w, rfl⟩, -⟩ | ⟨-, -, rfl⟩ | ⟨-, herr, -⟩ := step_effects h
  · exact ⟨hm, .inl ⟨rest, hp⟩⟩
  · exact ⟨hm, .inr ⟨hidle, w, rest, hp⟩⟩
  · exact absurd (seqStep_keeps Config.params s.drawTurn).1 hne
  · exact absurd herr hne

/-- Settles O40: an accepted command that changes RESULT is one of the quantizer's. -/
theorem resultChangesOnlyByQuantizer : Obligations.ResultChangesOnlyByQuantizer := by
  intro s t h hne
  obtain ⟨hm, a, rest, hp, rfl | ⟨hidle, w, rfl⟩, hperf⟩ | ⟨-, -, rfl⟩ | ⟨-, -, hres⟩ := step_effects h
  · exact ⟨hm, .inl ⟨rest, hp⟩⟩
  · exact ⟨hm, .inr ⟨hidle, w, rest, hp, cmd_changes_result (s := s.takeOp.drawTurn) hne hperf⟩⟩
  · exact absurd (seqStep_keeps Config.params s.drawTurn).2.1 hne
  · exact absurd hres hne

end Sys2Proof.Machine
end

section
/-! Runs of the machine: a job with a silent host, step by step, and the end of every job and of every wait loop under weak
fairness (42_frame_packer.md R182, R188; 70_reset_and_hazards.md R259; 93_implementation_defined.md section 1). -/

namespace Sys2Proof.Machine

/-! Runs. -/

/-- A run of one more step. -/
theorem run_succ_of_next {M : Host.Core} {n : Nat} {s t u : M.State} (h : M.run n s = .next t) (ht : M.step t = .next u) :
    M.run (n + 1) s = .next u := by
  induction n generalizing s with
  | zero =>
    obtain rfl : s = t := Host.Outcome.next.inj h
    simp [Host.Core.run, ht]
  | succ n ih =>
    rw [Host.Core.run] at h ⊢
    split at h
    case h_1 => exact ih h
    all_goals cases h

/-- What a running job keeps of the state it started from (42_frame_packer.md R181). -/
structure KeptByJob (s t : State) : Prop where
  result : t.result = s.result
  keyIn : t.keyIn = s.keyIn
  ovr : t.ovr = s.ovr
  err : t.err = s.err
  operands : SameOperands s t
  src : t.src = s.src
  resets : t.resets = s.resets
  draws : t.draws = s.draws
  jobEtype : t.jobEtype = s.jobEtype

/-- Where a job stands after `n` steps of the sequencer with a silent host, from `s` with POS 0. -/
structure JobAfter (s : State) (n : Nat) (t : State) : Prop where
  pending : t.pending = []
  pos : t.pos.toNat = n
  busy : t.busy = decide (n < frameBytes)
  complete : n = frameBytes → t.done = true ∧ t.fvalid = true
  bytes : ∀ p, p < n → Memory.read t.fout p = some (frameByte Config.params s p)
  kept : KeptByJob s t

theorem KeptByJob.seqStep {s t : State} (h : KeptByJob s t) (P : Params) : KeptByJob s (seqStep P t.drawTurn) := by
  obtain ⟨hres, hkey, hovr, herr, hops, hsrc, hresets, hdraws, hj⟩ := h
  constructor <;> simpa [Machine.seqStep, SameOperands]

theorem KeptByJob.frameByte {s t : State} (h : KeptByJob s t) (P : Params) (p : Nat) :
    frameByte P t p = frameByte P s p :=
  frameByte_congr h.src h.resets h.draws h.jobEtype P p

theorem jobAfter_zero {s : State} (hb : s.busy = true) (hpos : s.pos = 0#18) (hp : s.pending = []) : JobAfter s 0 s where
  pending := hp
  pos := by rw [hpos]; rfl
  busy := hb
  complete := fun h => absurd h (by decide)
  bytes := fun p h => absurd h (Nat.not_lt_zero p)
  kept := ⟨rfl, rfl, rfl, rfl, by simp [SameOperands], rfl, rfl, rfl, rfl⟩

theorem JobAfter.step {s t : State} {n : Nat} (h : JobAfter s n t) (hn : n < frameBytes) :
    ∃ u, step t = .next u ∧ JobAfter s (n + 1) u := by
  have hb : t.busy = true := by rw [h.busy]; exact decide_eq_true hn
  have hpos : (t.pos + 1#18).toNat = n + 1 := by rw [toNat_pos_add_one (h.pos ▸ hn), h.pos]
  refine ⟨_, step_of_sequencer (nextMover_eq_sequencer hb (.inl h.pending)), ?_⟩
  exact {
    pending := by simp [h.pending]
    pos := by simp [hpos]
    busy := by
      rw [seqStep_busy, State.drawTurn_pos, hpos, State.drawTurn_busy, hb]
      split
      case isTrue heq => simp [heq]
      case isFalse hne => exact (decide_eq_true (by omega)).symm
    complete := fun he => by simp [hpos, he]
    bytes := by
      intro p hp
      rw [seqStep_fout, Memory.read_write, State.drawTurn_pos, h.pos, frameByte_drawTurn, h.kept.frameByte]
      split
      case isTrue heq => rw [heq]
      case isFalse hne => exact h.bytes p (by omega)
    kept := h.kept.seqStep _ }

theorem run_jobAfter {s : State} (hb : s.busy = true) (hpos : s.pos = 0#18) (hp : s.pending = []) {n : Nat}
    (hn : n ≤ frameBytes) : ∃ t : State, Host.Core.run Sys2Proof.core n s = .next t ∧ JobAfter s n t := by
  induction n with
  | zero => exact ⟨s, rfl, jobAfter_zero hb hpos hp⟩
  | succ n ih =>
    obtain ⟨t, hrun, ht⟩ := ih (by omega)
    obtain ⟨u, hstep, hu⟩ := ht.step hn
    exact ⟨u, run_succ_of_next (M := Sys2Proof.core) hrun hstep, hu⟩

/-- Settles O59: `JobAfter` holds after each step, up to the end of the frame. -/
theorem jobWritesWholeFrame : Obligations.JobWritesWholeFrame := by
  intro s hb hpos hp
  constructor
  · intro n hn
    obtain ⟨t, hrun, ht⟩ := run_jobAfter hb hpos hp (Nat.le_of_lt hn)
    exact ⟨t, hrun, ht.busy.trans (decide_eq_true hn), ht.pos⟩
  · obtain ⟨t, hrun, ht⟩ := run_jobAfter hb hpos hp (Nat.le_refl frameBytes)
    obtain ⟨hdone, hfvalid⟩ := ht.complete rfl
    refine ⟨t, hrun, ht.busy.trans (by decide), hdone, hfvalid, ht.pos, fun p hlt => ?_, ht.kept.result, ht.kept.keyIn,
      ht.kept.ovr, ht.kept.err, ht.kept.operands, State.srcByte_congr ht.kept.src ht.kept.resets⟩
    rw [State.foutByte, ht.bytes p hlt]

/-! The schedule: the sequencer's turns come again, and every order in which they do is the schedule of some gaps
(70_reset_and_hazards.md R259). -/

/-- The order of turns is weakly fair to the sequencer. -/
def FairTo (f : Nat → Agent) : Prop := ∀ n, ∃ m, n ≤ m ∧ f m = .sequencer

/-- The sequencer has the turn at the end of the gap in which turn `n` stands. -/
theorem turnOf_end_of_gap (gaps : Nat → Nat) (left n : Nat) (h : (gapAt gaps n).2 = left) :
    turnOf gaps (n + left) = .sequencer := by
  induction left generalizing n with
  | zero => exact turnOf_eq_sequencer.2 h
  | succ left ih =>
    rw [Nat.add_comm left, ← Nat.add_assoc]
    exact ih (n + 1) (by rw [gapAt_succ_of_pos h])

theorem fairTo_turnOf (gaps : Nat → Nat) : FairTo (turnOf gaps) :=
  fun n => ⟨n + (gapAt gaps n).2, Nat.le_add_right _ _, turnOf_end_of_gap gaps _ n rfl⟩

section
variable {f : Nat → Agent} (hf : FairTo f)

/-- The first turn of the sequencer from turn `n` on. -/
def nextSequencerTurn (n : Nat) : Nat := Nat.find (hf n)

theorem le_nextSequencerTurn (n : Nat) : n ≤ nextSequencerTurn hf n := (Nat.find_spec (hf n)).1

theorem nextSequencerTurn_eq_self_iff (n : Nat) : nextSequencerTurn hf n = n ↔ f n = .sequencer := by
  constructor
  · intro h
    have hspec : f (nextSequencerTurn hf n) = .sequencer := (Nat.find_spec (hf n)).2
    rwa [h] at hspec
  · intro h
    exact Nat.le_antisymm (Nat.find_min' (hf n) ⟨Nat.le_refl n, h⟩) (le_nextSequencerTurn hf n)

/-- A turn of the host leaves the sequencer's next turn where it is. -/
theorem nextSequencerTurn_succ {n : Nat} (h : nextSequencerTurn hf n ≠ n) :
    nextSequencerTurn hf (n + 1) = nextSequencerTurn hf n := by
  have hlt : n + 1 ≤ nextSequencerTurn hf n := Nat.lt_of_le_of_ne (le_nextSequencerTurn hf n) h.symm
  have hle : n ≤ nextSequencerTurn hf (n + 1) := Nat.le_of_succ_le (le_nextSequencerTurn hf (n + 1))
  exact Nat.le_antisymm (Nat.find_min' _ ⟨hlt, (Nat.find_spec (hf n)).2⟩)
    (Nat.find_min' _ ⟨hle, (Nat.find_spec (hf (n + 1))).2⟩)

/-- The turn at which gap `k` of a fair order begins: after the sequencer's turn that ends the one before. -/
def gapStart : Nat → Nat
  | 0 => 0
  | k + 1 => nextSequencerTurn hf (gapStart k) + 1

/-- The length of gap `k` of a fair order. -/
def gapLength (k : Nat) : Nat := nextSequencerTurn hf (gapStart hf k) - gapStart hf k

/-- In the schedule of these gaps the gap in which turn `n` stands ends at the sequencer's next turn. -/
theorem gapAt_gapLength (n : Nat) :
    nextSequencerTurn hf (gapStart hf (gapAt (gapLength hf) n).1) = nextSequencerTurn hf n ∧
      n + (gapAt (gapLength hf) n).2 = nextSequencerTurn hf n := by
  induction n with
  | zero => simp [gapStart, gapLength]
  | succ n ih =>
    obtain ⟨hend, hleft⟩ := ih
    cases hl : (gapAt (gapLength hf) n).2 with
    | zero =>
      have hself : nextSequencerTurn hf n = n := by rw [← hleft, hl, Nat.add_zero]
      have hle := le_nextSequencerTurn hf (n + 1)
      rw [gapAt_succ_of_zero hl, gapLength, gapStart, hend, hself]
      exact ⟨rfl, by omega⟩
    | succ left =>
      have hne : nextSequencerTurn hf n ≠ n := by omega
      rw [gapAt_succ_of_pos hl, nextSequencerTurn_succ hf hne]
      exact ⟨hend, by omega⟩

/-- Every weakly fair order of turns is the schedule of some gaps. -/
theorem turnOf_gapLength (n : Nat) : turnOf (gapLength hf) n = f n := by
  have hleft := (gapAt_gapLength hf n).2
  have hseq : turnOf (gapLength hf) n = .sequencer ↔ f n = .sequencer := by
    rw [turnOf_eq_sequencer, ← nextSequencerTurn_eq_self_iff hf]
    omega
  cases hn : f n with
  | sequencer => exact hseq.2 hn
  | host =>
    cases ht : turnOf (gapLength hf) n with
    | host => rfl
    | sequencer => simp [hseq.1 ht] at hn

end

/-! Every job ends, and so does every wait loop. -/

/-- One step leads from one state to the other. -/
def Steps (s t : State) : Prop := step s = .next t

/-- Some run leads from one state to the other. -/
abbrev Reaches : State → State → Prop := Relation.ReflTransGen Steps

theorem Reaches.exists_run {s t : State} (h : Reaches s t) : ∃ n, Host.Core.run Sys2Proof.core n s = .next t := by
  induction h with
  | refl => exact ⟨0, rfl⟩
  | tail _ hstep ih =>
    obtain ⟨n, hn⟩ := ih
    exact ⟨n + 1, run_succ_of_next (M := Sys2Proof.core) hn hstep⟩

/-- The agent that has the turn after `k` steps. -/
def State.turnIn (s : State) : Nat → Agent
  | 0 => s.turn
  | k + 1 => Config.freeTurn (s.turns + k)

theorem State.turnIn_succ {s t : State} (hturn : t.turn = Config.freeTurn s.turns) (hturns : t.turns = s.turns + 1)
    (k : Nat) : t.turnIn k = s.turnIn (k + 1) := by
  cases k with
  | zero => exact hturn
  | succ k => rw [State.turnIn, State.turnIn, hturns, Nat.add_right_comm, Nat.add_assoc]

theorem exists_turnIn_eq_sequencer (s : State) : ∃ k, s.turnIn k = .sequencer := by
  obtain ⟨m, hm, hseq⟩ := fairTo_turnOf Config.freeGap s.turns
  refine ⟨m - s.turns + 1, ?_⟩
  rw [State.turnIn, Nat.add_sub_cancel' hm]
  exact hseq

/-- A wait loop at the head of the pending list stays there. -/
def KeepsWait (s t : State) : Prop := ∀ rest, s.pending = .wait :: rest → t.pending = .wait :: rest

theorem KeepsWait.trans {s t u : State} (hst : KeepsWait s t) (htu : KeepsWait t u) : KeepsWait s u :=
  fun rest hp => htu rest (hst rest hp)

section
variable {s : State}

/-- While a job runs a move of the host ends it, by RESET, or leaves it where it is. -/
theorem host_move_of_busy (hb : s.busy = true) (hm : nextMover s = some .host) :
    ∃ t, Steps s t ∧ KeepsWait s t ∧ (t.busy = false ∨
      (t.busy = true ∧ t.pos = s.pos ∧ t.turn = Config.freeTurn s.turns ∧ t.turns = s.turns + 1)) := by
  obtain ⟨-, -, hidle, -⟩ | ⟨op, rest, -, hp, e⟩ | ⟨hseq, -, -⟩ := step_cases s
  · simp [hb] at hidle
  · by_cases hreset : accessOf op = .reset
    · refine ⟨_, e.trans (by rw [hreset]; rfl), fun rest' hwait => ?_, .inl rfl⟩
      obtain ⟨rfl, -⟩ := List.cons.inj (hp.symm.trans hwait)
      simp at hreset
    · obtain ⟨t, ht, -⟩ := performAccess_cases (accessOf op) s.takeOp.drawTurn
      obtain ⟨hbusy, hpos, hturn, hturns, hpending⟩ : t.busy = s.busy ∧ t.pos = s.pos ∧
          t.turn = Config.freeTurn s.turns ∧ t.turns = s.turns + 1 ∧ t.pending = pendingAfter s := by
        obtain ⟨r, rfl⟩ | ⟨rep, rfl⟩ | rfl | rfl := performAccess_of_busy (s := s.takeOp.drawTurn) hb hreset ht
        all_goals exact ⟨rfl, rfl, rfl, rfl, rfl⟩
      refine ⟨t, e.trans ht, fun rest' hwait => ?_, .inr ⟨hbusy.trans hb, hpos, hturn, hturns⟩⟩
      rw [hpending, pendingAfter_wait hwait, if_pos hb]
  · simp [hm] at hseq

/-- A move of the sequencer ends the job or advances POS by one. -/
theorem sequencer_move_of_busy (hb : s.busy = true) (hpos : PosInv s) (hm : nextMover s = some .sequencer) :
    ∃ t, Steps s t ∧ KeepsWait s t ∧ (t.busy = false ∨ (t.busy = true ∧ PosInv t ∧ t.pos.toNat = s.pos.toNat + 1)) := by
  have hadv := toNat_pos_add_one (hpos.2 hb)
  refine ⟨_, step_of_sequencer hm, fun rest hwait => by simpa using hwait, ?_⟩
  by_cases hend : s.pos.toNat + 1 = frameBytes
  · exact .inl (by simp [hadv, hend])
  · have hlt : s.pos.toNat + 1 < frameBytes := Nat.lt_of_le_of_ne (hpos.2 hb) hend
    refine .inr ⟨by simp [hadv, hend, hb], ?_, by simp [hadv]⟩
    rw [PosInv, seqStep_pos, State.drawTurn_pos, hadv]
    exact ⟨Nat.le_of_lt hlt, fun _ => hlt⟩

/-- Once the sequencer's turn comes, the job has ended or POS has advanced by one. -/
theorem job_advances (hb : s.busy = true) (hpos : PosInv s) {k : Nat} (hk : s.turnIn k = .sequencer) :
    ∃ t, Reaches s t ∧ KeepsWait s t ∧
      (t.busy = false ∨ (t.busy = true ∧ PosInv t ∧ t.pos.toNat = s.pos.toNat + 1)) := by
  induction k generalizing s with
  | zero =>
    obtain ⟨t, hst, h⟩ := sequencer_move_of_busy hb hpos (nextMover_eq_sequencer hb (.inr hk))
    exact ⟨t, .single hst, h⟩
  | succ k ih =>
    by_cases hm : nextMover s = some .sequencer
    · obtain ⟨t, hst, h⟩ := sequencer_move_of_busy hb hpos hm
      exact ⟨t, .single hst, h⟩
    · have hhost : nextMover s = some .host := by
        obtain ⟨-, -, hidle, -⟩ | ⟨-, -, hhost, -⟩ | ⟨hseq, -⟩ := step_cases s
        · simp [hb] at hidle
        · exact hhost
        · exact absurd hseq hm
      obtain ⟨t, hst, hwait, hidle | ⟨hbt, hpt, hturn, hturns⟩⟩ := host_move_of_busy hb hhost
      · exact ⟨t, .single hst, hwait, .inl hidle⟩
      · have hpos' : PosInv t := by simpa only [PosInv, hbt, hpt, hb] using hpos
        obtain ⟨u, htu, hwait', hu⟩ := ih hbt hpos' ((State.turnIn_succ hturn hturns k).trans hk)
        exact ⟨u, .head hst htu, hwait.trans hwait', hpt ▸ hu⟩

/-- Every running job ends (70_reset_and_hazards.md R259). -/
theorem job_ends (hb : s.busy = true) (hpos : PosInv s) : ∃ t, Reaches s t ∧ KeepsWait s t ∧ t.busy = false := by
  induction hleft : frameBytes - s.pos.toNat generalizing s with
  | zero =>
    have hlt := hpos.2 hb
    omega
  | succ left ih =>
    obtain ⟨k, hk⟩ := exists_turnIn_eq_sequencer s
    obtain ⟨t, hst, hwait, hidle | ⟨hbt, hpt, hadv⟩⟩ := job_advances hb hpos hk
    · exact ⟨t, hst, hwait, hidle⟩
    · obtain ⟨u, htu, hwait', hidle⟩ := ih hbt hpt (by omega)
      exact ⟨u, hst.trans htu, hwait.trans hwait', hidle⟩

/-- A turn of `wait` reads STATUS, and the loop goes on while BUSY = 1 (30_encoding.md R107). -/
theorem step_wait {rest : List HostOp} (hp : s.pending = .wait :: rest) (hm : nextMover s = some .host) :
    step s = .next { s with
      pending := if s.busy then .wait :: rest else rest
      reads := s.reads ++ [.reg 1#4 (statusWord s)]
      turn := Config.freeTurn s.turns
      turns := s.turns + 1 } := by
  rw [step_of_host hp hm, State.takeOp, pendingAfter_wait hp]
  rfl

end

theorem exists_step (s : State) : ∃ t, step s = .next t := by
  obtain ⟨-, -, -, e⟩ | ⟨op, rest, -, -, e⟩ | ⟨-, -, e⟩ := step_cases s
  · exact ⟨s, e⟩
  · obtain ⟨t, ht, -⟩ := performAccess_cases (accessOf op) s.takeOp.drawTurn
    exact ⟨t, e.trans ht⟩
  · exact ⟨_, e⟩

theorem exists_performAccess (s : State) (a : HostAccess) : ∃ t, performAccess a s = .next t := by
  obtain ⟨t, ht, -⟩ := performAccess_cases a s
  exact ⟨t, ht⟩

/-- With nothing pending and no job running no agent is enabled, and the state stays (log 10). -/
theorem step_of_nothing_to_do {s : State} (hp : s.pending = []) (hb : s.busy = false) :
    nextMover s = none ∧ step s = .next s := by
  have hm : nextMover s = none := by simp [nextMover, hp, hb]
  exact ⟨hm, by simp [step, move, hm]⟩

/-- Every wait loop ends, in a state whose BUSY it has read as 0. -/
theorem wait_ends {s : State} {rest : List HostOp} (hpos : PosInv s) (hp : s.pending = .wait :: rest) :
    ∃ t, Reaches s t ∧ t.busy = false ∧ t.pending = rest := by
  obtain ⟨u, hsu, hpu, hidle⟩ : ∃ u, Reaches s u ∧ u.pending = .wait :: rest ∧ u.busy = false := by
    cases hb : s.busy with
    | false => exact ⟨s, .refl, hp, hb⟩
    | true =>
      obtain ⟨u, hsu, hwait, hidle⟩ := job_ends hb hpos
      exact ⟨u, hsu, hwait rest hp, hidle⟩
  exact ⟨_, hsu.tail (step_wait hpu (nextMover_eq_host hpu (.inl hidle))), hidle, by simp [hidle]⟩

/-- Settles O10: no step or access stops, the gaps make the fair orders and no others, and along them every job and every wait
loop ends. -/
theorem everyStateHasASuccessor : Obligations.EveryStateHasASuccessor := by
  refine ⟨fun s => ⟨exists_step s, exists_performAccess s, step_of_nothing_to_do⟩, fairTo_turnOf Config.freeGap,
    fun f hf => ⟨gapLength hf, turnOf_gapLength hf⟩, fun s hpos hb => ?_, fun s rest hpos hp => ?_⟩
  · obtain ⟨t, hst, -, hidle⟩ := job_ends hb hpos
    obtain ⟨n, hn⟩ := hst.exists_run
    exact ⟨n, t, hn, hidle⟩
  · obtain ⟨t, hst, hidle, hrest⟩ := wait_ends hpos hp
    obtain ⟨n, hn⟩ := hst.exists_run
    exact ⟨n, t, hn, hidle, hrest⟩

end Sys2Proof.Machine
end

section
/-! Rounding to a number of significant bits, ties to even: the rounded number is the nearest one, rounding is monotone and keeps
the numbers that need no rounding (00_scope.md R13; 41_quantizer.md R142). -/

namespace Sys2Proof.Machine

/-- How a fraction `n / d` is rounded to `R`: `q` is what is kept, `r` the remainder, `2 ^ sh` the last kept place. Either `q` is
kept, the remainder being at most half a place, or the next number is taken, the remainder being at least half; at half the even
one is taken. -/
structure RoundedAt (prec n d q sh r R : Nat) : Prop where
  eq : n = q * (d * 2 ^ sh) + r
  rem_lt : r < d * 2 ^ sh
  lt : q < 2 ^ prec
  normal : sh = 0 ∨ 2 ^ (prec - 1) ≤ q
  down_or_up : (R = q * 2 ^ sh ∧ 2 * r ≤ d * 2 ^ sh ∧ (2 * r = d * 2 ^ sh → q % 2 = 0)) ∨
    (R = (q + 1) * 2 ^ sh ∧ d * 2 ^ sh ≤ 2 * r ∧ (2 * r = d * 2 ^ sh → (q + 1) % 2 = 0))

/-- The bits kept of a natural: all of them, or the leading `prec`. -/
theorem div_two_pow_bounds {prec N sh : Nat} (hprec : 0 < prec) (hsh : sh = N.log2 + 1 - prec) :
    N / 2 ^ sh < 2 ^ prec ∧ (sh = 0 ∨ 2 ^ (prec - 1) ≤ N / 2 ^ sh) := by
  have hlog : N < 2 ^ (N.log2 + 1) := Nat.lt_log2_self
  have hpow : (2 : Nat) ^ (N.log2 + 1) ≤ 2 ^ sh * 2 ^ prec := by
    rw [← Nat.pow_add]
    exact Nat.pow_le_pow_right (by decide) (by omega)
  refine ⟨Nat.div_lt_of_lt_mul (Nat.lt_of_lt_of_le hlog hpow), ?_⟩
  by_cases h0 : sh = 0
  · exact .inl h0
  · right
    have hN : N ≠ 0 := by
      rintro rfl
      simp at hsh
      omega
    rw [Nat.le_div_iff_mul_le (Nat.two_pow_pos sh), ← Nat.pow_add, show prec - 1 + sh = N.log2 by omega]
    exact Nat.log2_self_le hN

theorem roundedAt_roundRat {prec n d : Nat} (hprec : 0 < prec) (hd : 0 < d) :
    ∃ q sh r, RoundedAt prec n d q sh r (roundRat prec n d) := by
  obtain ⟨hlt, hnormal⟩ := div_two_pow_bounds (N := n / d) hprec rfl
  rw [Nat.div_div_eq_div_mul] at hlt hnormal
  refine ⟨n / (d * 2 ^ ((n / d).log2 + 1 - prec)), (n / d).log2 + 1 - prec, n % (d * 2 ^ ((n / d).log2 + 1 - prec)),
    (Nat.div_add_mod' _ _).symm, Nat.mod_lt _ (Nat.mul_pos hd (Nat.two_pow_pos _)), hlt, hnormal, ?_⟩
  unfold roundRat
  dsimp only
  generalize (n / d).log2 + 1 - prec = sh
  generalize n / (d * 2 ^ sh) = q
  generalize n % (d * 2 ^ sh) = r
  generalize d * 2 ^ sh = u
  split
  case isTrue hup =>
    simp at hup
    refine .inr ⟨rfl, by omega, by omega⟩
  case isFalse hup =>
    simp at hup
    refine .inl ⟨rfl, by omega, by omega⟩

section
variable {prec n d q sh r R : Nat}

/-- A number of `prec` bits is a multiple of the last kept place, or is below what is kept. -/
theorem RoundedAt.multiple_or_lt (h : RoundedAt prec n d q sh r R) (hprec : 0 < prec) {a e : Nat} (ha : a < 2 ^ prec) :
    (∃ k, a * 2 ^ e = k * 2 ^ sh) ∨ a * 2 ^ e < q * 2 ^ sh := by
  by_cases he : sh ≤ e
  · left
    refine ⟨a * 2 ^ (e - sh), ?_⟩
    rw [Nat.mul_assoc, ← Nat.pow_add, Nat.sub_add_cancel he]
  · right
    have hq : 2 ^ (prec - 1) ≤ q := h.normal.resolve_left (by omega)
    calc a * 2 ^ e < 2 ^ prec * 2 ^ e := Nat.mul_lt_mul_of_pos_right ha (Nat.two_pow_pos e)
      _ = 2 ^ (prec + e) := (Nat.pow_add 2 prec e).symm
      _ ≤ 2 ^ (prec - 1 + sh) := Nat.pow_le_pow_right (by decide) (by omega)
      _ = 2 ^ (prec - 1) * 2 ^ sh := Nat.pow_add 2 _ _
      _ ≤ q * 2 ^ sh := Nat.mul_le_mul_right _ hq

/-- No number of `prec` bits is nearer than the rounded one, and one as near means that the remainder is half a place. -/
theorem RoundedAt.nearest (h : RoundedAt prec n d q sh r R) (hprec : 0 < prec) {a e : Nat} (ha : a < 2 ^ prec) :
    (((R * d : Nat) : Int) - n).natAbs ≤ (((a * 2 ^ e * d : Nat) : Int) - n).natAbs ∧
    ((((R * d : Nat) : Int) - n).natAbs = (((a * 2 ^ e * d : Nat) : Int) - n).natAbs → a * 2 ^ e ≠ R →
      2 * r = d * 2 ^ sh) := by
  have hn := h.eq
  have hr := h.rem_lt
  have hd : 0 < d := Nat.pos_of_mul_pos_right (Nat.zero_lt_of_lt hr)
  have hplaces (k : Nat) : k * 2 ^ sh * d = k * (d * 2 ^ sh) := by rw [Nat.mul_assoc, Nat.mul_comm (2 ^ sh)]
  have hR : (R * d = q * (d * 2 ^ sh) ∧ 2 * r ≤ d * 2 ^ sh) ∨
      (R * d = q * (d * 2 ^ sh) + d * 2 ^ sh ∧ d * 2 ^ sh ≤ 2 * r) := by
    obtain ⟨rfl, hle, -⟩ | ⟨rfl, hle, -⟩ := h.down_or_up
    · exact .inl ⟨hplaces q, hle⟩
    · exact .inr ⟨by rw [hplaces, Nat.succ_mul], hle⟩
  obtain ⟨k, hk⟩ | hlt := h.multiple_or_lt hprec (e := e) ha
  · have hX : a * 2 ^ e * d = k * (d * 2 ^ sh) := by rw [hk, hplaces]
    have hne : a * 2 ^ e ≠ R → a * 2 ^ e * d ≠ R * d := fun hne heq => hne (Nat.eq_of_mul_eq_mul_right hd heq)
    rw [hX] at hne ⊢
    generalize d * 2 ^ sh = u at *
    have hk' : k * u + u ≤ q * u ∨ k * u = q * u ∨ k * u = q * u + u ∨ (q + 2) * u ≤ k * u := by
      obtain hlt | rfl | rfl | hlt : k + 1 ≤ q ∨ k = q ∨ k = q + 1 ∨ q + 2 ≤ k := by omega
      · exact .inl (Nat.succ_mul k u ▸ Nat.mul_le_mul_right u hlt)
      · exact .inr (.inl rfl)
      · exact .inr (.inr (.inl (Nat.succ_mul q u)))
      · exact .inr (.inr (.inr (Nat.mul_le_mul_right u hlt)))
    rw [Nat.add_mul] at hk'
    generalize q * u = qu at *
    generalize k * u = ku at *
    exact ⟨by omega, fun heq hX => by have := hne hX; omega⟩
  · have hX : a * 2 ^ e * d < q * (d * 2 ^ sh) := by
      rw [← hplaces]
      exact Nat.mul_lt_mul_of_pos_right hlt hd
    omega

/-- A number of at most `2 ^ prec` places has a significand of `prec` bits, as even and as large as it. -/
theorem exists_significand {prec p sh : Nat} (hprec : 2 ≤ prec) (hp : p ≤ 2 ^ prec) :
    ∃ q e, q < 2 ^ prec ∧ p * 2 ^ sh = q * 2 ^ e ∧ (p % 2 = 0 → q % 2 = 0) ∧
      (2 ^ (prec - 1) ≤ p → 2 ^ (prec - 1) ≤ q) ∧ (sh = 0 → p < 2 ^ (prec - 1) → e = 0) := by
  have hpow : 2 ^ prec = 2 ^ (prec - 1) * 2 := by rw [← Nat.pow_succ, Nat.succ_eq_add_one, Nat.sub_add_cancel (by omega)]
  have hpow' : 2 ^ (prec - 1) = 2 ^ (prec - 2) * 2 := by rw [← Nat.pow_succ]; congr 1; omega
  have hpos := Nat.two_pow_pos (prec - 1)
  obtain hlt | rfl := Nat.lt_or_eq_of_le hp
  · exact ⟨p, sh, hlt, rfl, id, id, fun h _ => h⟩
  · exact ⟨2 ^ (prec - 1), sh + 1, by omega, by rw [hpow, Nat.pow_succ]; ring, by omega, by omega, by omega⟩

/-- The rounded number is a number of places, which at half a place is even. -/
theorem RoundedAt.exists_places (h : RoundedAt prec n d q sh r R) :
    ∃ p, p ≤ 2 ^ prec ∧ R = p * 2 ^ sh ∧ (sh = 0 ∨ 2 ^ (prec - 1) ≤ p) ∧ (2 * r = d * 2 ^ sh → p % 2 = 0) := by
  have hlt := h.lt
  have hnormal := h.normal
  obtain ⟨hR, -, heven⟩ | ⟨hR, -, heven⟩ := h.down_or_up
  · exact ⟨q, Nat.le_of_lt hlt, hR, hnormal, heven⟩
  · exact ⟨q + 1, hlt, hR, by omega, heven⟩

theorem RoundedAt.exists_even (h : RoundedAt prec n d q sh r R) (hprec : 2 ≤ prec) (hhalf : 2 * r = d * 2 ^ sh) :
    ∃ q' e', q' < 2 ^ prec ∧ q' % 2 = 0 ∧ (2 ^ (prec - 1) ≤ q' ∨ (sh = 0 ∧ e' = 0)) ∧ R = q' * 2 ^ e' := by
  obtain ⟨p, hp, hR, hnormal, heven⟩ := h.exists_places
  obtain ⟨q', e', hq', hval, heven', hlarge, hsmall⟩ := exists_significand (sh := sh) hprec hp
  refine ⟨q', e', hq', heven' (heven hhalf), ?_, hR.trans hval⟩
  by_cases hlow : p < 2 ^ (prec - 1)
  · have h0 : sh = 0 := hnormal.resolve_right (Nat.not_le.2 hlow)
    exact .inr ⟨h0, hsmall h0 hlow⟩
  · exact .inl (hlarge (Nat.le_of_not_lt hlow))

end

/-! The rounded fraction. -/

section
variable {prec n d : Nat}

/-- Rounding is roundTiesToEven (00_scope.md R13). -/
theorem roundsTo_roundRat (hprec : 2 ≤ prec) (hd : 0 < d) : RoundsTo prec n d (roundRat prec n d) := by
  obtain ⟨q, sh, r, h⟩ := roundedAt_roundRat (n := n) (Nat.lt_of_lt_of_le Nat.zero_lt_two hprec) hd
  constructor
  · obtain ⟨p, hp, hR, -⟩ := h.exists_places
    obtain ⟨q', e', hq', hval, -⟩ := exists_significand (sh := sh) hprec hp
    exact ⟨q', e', hq', hR.trans hval⟩
  · intro a e ha
    obtain ⟨hle, htie⟩ := h.nearest (Nat.lt_of_lt_of_le Nat.zero_lt_two hprec) (e := e) ha
    refine ⟨hle, fun heq hne => ?_⟩
    obtain ⟨q', e', hq', heven, hlarge | ⟨-, he'⟩, hR⟩ := h.exists_even hprec (htie heq hne)
    · exact ⟨q', e', hq', heven, .inl hlarge, hR⟩
    · exact ⟨q', e', hq', heven, .inr he', hR⟩

/-- A number of `prec` bits is not rounded. -/
theorem RoundsTo.eq_of_representable {R a e : Nat} (h : RoundsTo prec n d R) (hd : 0 < d) (ha : a < 2 ^ prec)
    (hn : n = a * 2 ^ e * d) : R = a * 2 ^ e := by
  have hle := (h.2 a e ha).1
  refine Nat.eq_of_mul_eq_mul_right hd ?_
  omega

/-- Rounding is monotone: of two numbers in order the nearest numbers are in order. -/
theorem RoundsTo.mono {R n' R' : Nat} (h : RoundsTo prec n d R) (h' : RoundsTo prec n' d R') (hd : 0 < d) (hlt : n < n') :
    R ≤ R' := by
  obtain ⟨a, e, ha, hR⟩ := h.1
  obtain ⟨a', e', ha', hR'⟩ := h'.1
  have hnear := (h.2 a' e' ha').1
  have hnear' := (h'.2 a e ha).1
  rw [← hR'] at hnear
  rw [← hR] at hnear'
  refine Nat.le_of_mul_le_mul_right ?_ hd
  omega

end

end Sys2Proof.Machine
end

section
/-! The quantizer: the bits of Q888, the float channel from clamp to floor, and the float pixel that CVTF and a FLOAT payload write
(41_quantizer.md R140 to R148; 42_frame_packer.md R179). -/

namespace Sys2Proof.Machine

/-! 8-bit pixels. -/

theorem pack_inj {r5 r5' : BitVec 5} {g6 g6' : BitVec 6} {b5 b5' : BitVec 5} :
    pack r5 g6 b5 = pack r5' g6' b5' ↔ r5 = r5' ∧ g6 = g6' ∧ b5 = b5' := by
  constructor
  · intro h
    exact ⟨by rw [← pack_red r5 g6 b5, h, pack_red], by rw [← pack_green r5 g6 b5, h, pack_green],
      by rw [← pack_blue r5 g6 b5, h, pack_blue]⟩
  · rintro ⟨rfl, rfl, rfl⟩
    rfl

/-- The masked form of the truncating quantization (41_quantizer.md R146). -/
theorem q888_eq_masked (r g b : Byte) : q888 r g b =
    ((r &&& 0xF8#8).setWidth 16 <<< 8) ||| ((g &&& 0xFC#8).setWidth 16 <<< 3) ||| (b.setWidth 16 >>> 3) := by
  ext i hi
  interval_cases i <;> simp [q888, pack]

/-- A field placed at the top of a byte is the byte's top bits. -/
theorem extractLsb'_setWidth_shiftLeft {n k : Nat} (hnk : k + n = 8) (x : BitVec n) :
    (x.setWidth 8 <<< k).extractLsb' k n = x := by
  ext i hi
  have hlt : k + i < 8 ∧ i < 8 := by omega
  simp [hlt, hi, BitVec.getLsbD_eq_getElem]

/-- Settles O44: a pixel's word packs the channels' top bits, and a packed word keeps its fields. -/
theorem q888IsOntoAndKeepsTopBits : Obligations.Q888IsOntoAndKeepsTopBits := by
  refine ⟨q888_eq_masked, fun r5 g6 b5 => ?_, fun r g b r' g' b' => ?_⟩
  · rw [q888_eq_pack_extractLsb', extractLsb'_setWidth_shiftLeft rfl, extractLsb'_setWidth_shiftLeft rfl,
      extractLsb'_setWidth_shiftLeft rfl]
  · rw [q888_eq_pack_extractLsb', q888_eq_pack_extractLsb', pack_inj]

/-! The clamp. -/

section
variable (fmt : FloatFmt)

theorem clampF_neg {n : Nat} (hn : 0 < n) :
    clampF fmt (.fin { neg := true, quanta := n }) = some { neg := false, quanta := 0 } := by
  simp [clampF, Nat.ne_of_gt hn]

theorem clampF_neg_zero : clampF fmt (.fin { neg := true, quanta := 0 }) = some { neg := true, quanta := 0 } := by
  simp [clampF]

/-- A non-negative value is cut off at 1.0 (41_quantizer.md R141). -/
theorem clampF_pos (n : Nat) :
    clampF fmt (.fin { neg := false, quanta := n }) = some { neg := false, quanta := min n (oneQuanta fmt) } := by
  by_cases h : oneQuanta fmt < n
  · simp [clampF, h, Nat.le_of_lt h]
  · simp [clampF, h, Nat.le_of_not_lt h]

end

/-- Settles O45: a negative value that is not -0.0 goes to +0.0, a positive one is cut off at 1.0. -/
theorem floatClamp : Obligations.FloatClamp := by
  refine fun fmt => ⟨rfl, rfl, fun n => ⟨clampF_neg fmt n.succ_pos, clampF_neg_zero fmt, fun h => ?_, fun h => ?_⟩⟩
  · rw [clampF_pos, Nat.min_eq_left h]
  · rw [clampF_pos, Nat.min_eq_right (Nat.le_of_lt h)]

/-! The scale product. -/

theorem two_le_floatPrecision (fmt : FloatFmt) : 2 ≤ floatPrecision fmt := by
  cases fmt <;> decide

section
variable {prec : Nat}

theorem roundsTo_roundSig (hprec : 2 ≤ prec) (n : Nat) : RoundsTo prec n 1 (roundSig prec n) :=
  roundRat_one prec n ▸ roundsTo_roundRat hprec Nat.one_pos

theorem roundSig_of_representable (hprec : 2 ≤ prec) {a e : Nat} (ha : a < 2 ^ prec) :
    roundSig prec (a * 2 ^ e) = a * 2 ^ e :=
  (roundsTo_roundSig hprec _).eq_of_representable Nat.one_pos ha (Nat.mul_one _).symm

theorem roundSig_mono (hprec : 2 ≤ prec) {n n' : Nat} (h : n ≤ n') : roundSig prec n ≤ roundSig prec n' := by
  obtain hlt | rfl := Nat.lt_or_eq_of_le h
  · exact (roundsTo_roundSig hprec n).mono (roundsTo_roundSig hprec n') Nat.one_pos hlt
  · exact Nat.le_refl _

/-- A natural exactly between two numbers of `prec` bits has more bits than are kept. -/
theorem RoundedAt.exists_even_normal {n q sh r R : Nat} (h : RoundedAt prec n 1 q sh r R) (hprec : 2 ≤ prec)
    (hhalf : 2 * r = 1 * 2 ^ sh) :
    ∃ q' e', 2 ^ (prec - 1) ≤ q' ∧ q' < 2 ^ prec ∧ q' % 2 = 0 ∧ R = q' * 2 ^ e' := by
  obtain ⟨q', e', hq', heven, hlarge | ⟨rfl, -⟩, hR⟩ := h.exists_even hprec hhalf
  · exact ⟨q', e', hlarge, hq', heven, hR⟩
  · omega

end

/-- Settles O46: the kept bits and the remainder of the product. -/
theorem roundingIsNearestEven : Obligations.RoundingIsNearestEven := by
  intro fmt m c
  have hprec := two_le_floatPrecision fmt
  refine ⟨rfl, (roundsTo_roundSig hprec _).1, fun a e ha => ?_⟩
  obtain ⟨q, sh, r, h⟩ := roundedAt_roundRat (n := c.quanta * m) (Nat.lt_of_lt_of_le Nat.zero_lt_two hprec) Nat.one_pos
  rw [roundRat_one] at h
  obtain ⟨hle, htie⟩ := h.nearest (Nat.lt_of_lt_of_le Nat.zero_lt_two hprec) (e := e) ha
  rw [Nat.mul_one, Nat.mul_one] at hle htie
  exact ⟨hle, fun heq hne => h.exists_even_normal hprec (htie heq hne)⟩

/-! The quantized channel. -/

section
variable {fmt : FloatFmt} {m : Nat}

theorem lt_two_pow_floatPrecision (fmt : FloatFmt) (hm : m = 31 ∨ m = 63) : m < 2 ^ floatPrecision fmt := by
  cases fmt <;> simp only [floatPrecision] <;> omega

/-- 1.0 scales to `m` exactly. -/
theorem roundSig_one (hm : m = 31 ∨ m = 63) :
    roundSig (floatPrecision fmt) (oneQuanta fmt * m) = m * oneQuanta fmt := by
  rw [Nat.mul_comm]
  exact roundSig_of_representable (two_le_floatPrecision fmt) (lt_two_pow_floatPrecision fmt hm)

/-- The channel of a non-negative value (41_quantizer.md R141 to R143). -/
theorem quantF_pos (fmt : FloatFmt) (m n : Nat) : quantF fmt m (.fin { neg := false, quanta := n }) =
    some (roundSig (floatPrecision fmt) (min n (oneQuanta fmt) * m) / oneQuanta fmt) := by
  rw [quantF_of_clamp m (clampF_pos fmt n)]
  rfl

/-- A clamped value scales to at most `m`. -/
theorem floorF_scaleF_le (hm : m = 31 ∨ m = 63) {c : FiniteF} (hc : c.quanta ≤ oneQuanta fmt) :
    floorF fmt (scaleF fmt m c) ≤ m := by
  have hle : (scaleF fmt m c).quanta ≤ m * oneQuanta fmt :=
    roundSig_one (fmt := fmt) hm ▸ roundSig_mono (two_le_floatPrecision fmt) (Nat.mul_le_mul_right m hc)
  exact Nat.div_le_of_le_mul (Nat.mul_comm m _ ▸ hle)

theorem quantF_ge_one (hm : m = 31 ∨ m = 63) {n : Nat} (hn : oneQuanta fmt ≤ n) :
    quantF fmt m (.fin { neg := false, quanta := n }) = some m := by
  rw [quantF_pos, Nat.min_eq_right hn, roundSig_one hm, Nat.mul_div_cancel _ (oneQuanta_pos fmt)]

theorem quantF_inf (hm : m = 31 ∨ m = 63) : quantF fmt m (.inf false) = some m := by
  have hclamp : clampF fmt (.inf false) = some { neg := false, quanta := oneQuanta fmt } := rfl
  rw [quantF_of_clamp m hclamp, ← quantF_ge_one (fmt := fmt) hm (Nat.le_refl _), quantF_pos, Nat.min_self]
  rfl

theorem quantF_neg (fmt : FloatFmt) (m n : Nat) : quantF fmt m (.fin { neg := true, quanta := n }) = some 0 := by
  have hzero (neg : Bool) : floorF fmt (scaleF fmt m { neg := neg, quanta := 0 }) = 0 := by
    simp [floorF, scaleF, roundSig]
  obtain rfl | hn := Nat.eq_zero_or_pos n
  · rw [quantF_of_clamp m (clampF_neg_zero fmt), hzero]
  · rw [quantF_of_clamp m (clampF_neg fmt hn), hzero]

/-- A subnormal scales to less than 1.0: the quanta in 1.0 are far more than its own and `m` together. -/
theorem quantF_subnormal (hm : m = 31 ∨ m = 63) {n : Nat} (hn : n < 2 ^ (floatPrecision fmt - 1)) :
    quantF fmt m (.fin { neg := false, quanta := n }) = some 0 := by
  have hprec := two_le_floatPrecision fmt
  have hproduct : min n (oneQuanta fmt) * m ≤ 1 * 2 ^ (floatPrecision fmt - 1 + 6) := by
    rw [Nat.one_mul, Nat.pow_add]
    exact Nat.mul_le_mul (Nat.le_of_lt (Nat.lt_of_le_of_lt (Nat.min_le_left _ _) hn)) (by omega)
  have hround : roundSig (floatPrecision fmt) (min n (oneQuanta fmt) * m) ≤ 1 * 2 ^ (floatPrecision fmt - 1 + 6) :=
    roundSig_of_representable hprec (Nat.one_lt_two_pow (by omega)) ▸ roundSig_mono hprec hproduct
  have hone : 1 * 2 ^ (floatPrecision fmt - 1 + 6) < oneQuanta fmt := by
    rw [Nat.one_mul]
    refine Nat.pow_lt_pow_right Nat.one_lt_two ?_
    cases fmt <;> decide
  rw [quantF_pos, Nat.div_eq_of_lt (Nat.lt_of_le_of_lt hround hone)]

end

/-- Settles O47: the clamped value scales to at most `m`, and the floor is the floor in quanta of 1.0. -/
theorem quantizedChannelWithinRange : Obligations.QuantizedChannelWithinRange := by
  intro fmt m v hm
  refine ⟨fun hv => hv ▸ quantF_nan fmt m, fun hv => ?_⟩
  obtain ⟨c, hc⟩ := Option.isSome_iff_exists.1 (clampF_isSome (fmt := fmt) hv)
  obtain ⟨hlo, hhi⟩ := floorF_bounds fmt (scaleF fmt m c)
  exact ⟨c, _, hc, quantF_of_clamp m hc, hlo, hhi, floorF_scaleF_le hm (clampF_bounds hc).1⟩

/-- Settles O48; -infinity clamps as a negative number does. -/
theorem specialFloatChannels : Obligations.SpecialFloatChannels := fun fmt m hm =>
  ⟨quantF_inf hm, quantF_neg fmt m 1, quantF_nan fmt m, fun _ hn => quantF_ge_one hm hn, quantF_neg fmt m,
    fun _ hn => quantF_subnormal hm hn⟩

/-- Settles O49: the clamp, the rounding and the floor are each monotone. -/
theorem floatQuantizerMonotone : Obligations.FloatQuantizerMonotone := by
  intro fmt m x y p q hm hxy hp hq
  rw [quantF_pos, Option.some.injEq] at hp hq
  subst hp hq
  refine Nat.div_le_div_right (roundSig_mono (two_le_floatPrecision fmt) (Nat.mul_le_mul_right m ?_))
  exact min_le_min_right _ hxy

/-! The float pixel. -/

section
variable {fmt : FloatFmt} {v : FVal}

theorem exists_quantF_of_ne_nan {m : Nat} (hm : m = 31 ∨ m = 63) (hv : v ≠ .nan) :
    ∃ q, quantF fmt m v = some q ∧ q ≤ m := by
  obtain ⟨c, hc⟩ := Option.isSome_iff_exists.1 (clampF_isSome (fmt := fmt) hv)
  exact ⟨_, quantF_of_clamp m hc, floorF_scaleF_le hm (clampF_bounds hc).1⟩

theorem quantF_eq_redField (d k : Nat) (hv : v ≠ .nan) : quantF fmt 31 v = some (redField fmt d k v).toNat := by
  obtain ⟨q, hq, hle⟩ := exists_quantF_of_ne_nan (fmt := fmt) (m := 31) (.inl rfl) hv
  simp only [redField, hq, BitVec.toNat_ofNat, Option.some.injEq]
  omega

theorem quantF_eq_greenField (d k : Nat) (hv : v ≠ .nan) : quantF fmt 63 v = some (greenField fmt d k v).toNat := by
  obtain ⟨q, hq, hle⟩ := exists_quantF_of_ne_nan (fmt := fmt) (m := 63) (.inr rfl) hv
  simp only [greenField, hq, BitVec.toNat_ofNat, Option.some.injEq]
  omega

theorem quantF_eq_blueField (d k : Nat) (hv : v ≠ .nan) : quantF fmt 31 v = some (blueField fmt d k v).toNat := by
  obtain ⟨q, hq, hle⟩ := exists_quantF_of_ne_nan (fmt := fmt) (m := 31) (.inl rfl) hv
  simp only [blueField, hq, BitVec.toNat_ofNat, Option.some.injEq]
  omega

end

/-- The word of a float pixel holds the quantized values, or the free value of a NaN (41_quantizer.md R143 to R146). -/
theorem floatPixelWord_qfp (fmt : FloatFmt) (d k : Nat) (vr vg vb : FVal) :
    FloatPixelWord fmt d k vr vg vb (qfp fmt d k vr vg vb) := by
  rw [FloatPixelWord, qfp_red, qfp_green, qfp_blue]
  exact ⟨quantF_eq_redField d k, quantF_eq_greenField d k, quantF_eq_blueField d k,
    fun h => h ▸ redField_nan fmt d k, fun h => h ▸ greenField_nan fmt d k, fun h => h ▸ blueField_nan fmt d k⟩

/-- CVTF's whole effect: the float pixel of the FIN registers, under the next drawing number (41_quantizer.md R148). -/
theorem exec_cvtf_idle {s : State} (h : s.busy = false) :
    exec .cvtf s = .next { s with
      ovr := false
      err := 0#4
      done := true
      draws := s.draws + 1
      result := (qfp Config.floatFmt (s.draws + 1) 0 (s.finRed Config.floatFmt) (s.finGreen Config.floatFmt)
        (s.finBlue Config.floatFmt)).setWidth 32 } :=
  congrArg Host.Outcome.next (acceptCommand_idle h _)

/-- Settles O13: CVTF's effect, and the fields of a float pixel's word. -/
theorem cvtfConvertsFinRegisters : Obligations.CvtfConvertsFinRegisters := fun _ hb =>
  ⟨exec_cvtf_idle hb, floatPixelWord_qfp _ _ _ _ _ _⟩

/-- Settles O52: RESULT's low half is the float pixel's word. -/
theorem nanChannelIsFree : Obligations.NanChannelIsFree := by
  intro s hb
  refine ⟨_, exec_cvtf_idle hb, rfl, rfl, fun h => ?_, fun h => ?_, fun h => ?_⟩
  · rw [BitVec.extractLsb'_setWidth_of_le (by decide), qfp_red, h, redField_nan]
  · rw [BitVec.extractLsb'_setWidth_of_le (by decide), qfp_green, h, greenField_nan]
  · rw [BitVec.extractLsb'_setWidth_of_le (by decide), qfp_blue, h, blueField_nan]

/-- Settles O56: the payload byte is a half of the pixel's word, whose elements stand side by side. -/
theorem floatPayloadWord : Obligations.FloatPayloadWord := by
  refine ⟨fun P s k h hj hh => ?_, floatPixelWord_qfp⟩
  rw [Nat.add_assoc, frameByte_payload, payloadByte_float P hj k hh]
  rfl

end Sys2Proof.Machine
end

section
/-! The floating-point encodings: what each encoding decodes to, that encoding a value is inverted by it, and the values of the
FIN registers and of the elements of SRC (00_scope.md R7; 10_state.md R36; 20_memory.md R64; 30_encoding.md R107). -/

namespace Sys2Proof.Machine

/-! Fields of an encoding. -/

section
variable {fw ew e f : Nat}

/-- A sign, an exponent field of `ew` bits and a fraction field of `fw` bits stand in their sum at their places. -/
theorem fields_ofNat (hw : fw + ew < 64) (neg : Bool) (he : e < 2 ^ ew) (hf : f < 2 ^ fw) {x : BitVec 64}
    (hx : x = BitVec.ofNat 64 ((if neg then 2 ^ (fw + ew) else 0) + e * 2 ^ fw + f)) :
    x.getLsbD (fw + ew) = neg ∧ (x.extractLsb' fw ew).toNat = e ∧ (x.extractLsb' 0 fw).toNat = f := by
  have hlow : e * 2 ^ fw + f < 2 ^ (fw + ew) := by
    rw [Nat.pow_add, Nat.mul_comm (2 ^ fw)]
    calc e * 2 ^ fw + f < e * 2 ^ fw + 2 ^ fw := Nat.add_lt_add_left hf _
      _ = (e + 1) * 2 ^ fw := (Nat.succ_mul e _).symm
      _ ≤ 2 ^ ew * 2 ^ fw := Nat.mul_le_mul_right _ he
  have hsign : x.getLsbD (fw + ew) = neg := by
    rw [hx, BitVec.getLsbD_ofNat, Nat.add_assoc]
    cases neg
    · simp [Nat.testBit_lt_two_pow hlow]
    · simp [hw, Nat.testBit_two_pow_add_eq, Nat.testBit_lt_two_pow hlow]
  have hnat : x.toNat = ((if neg then 2 ^ ew else 0) + e) * 2 ^ fw + f := by
    have h64 : 2 ^ (fw + ew) + 2 ^ (fw + ew) ≤ 2 ^ 64 := by
      rw [← Nat.two_mul, ← Nat.pow_succ']
      exact Nat.pow_le_pow_right (by decide) hw
    rw [hx, BitVec.toNat_ofNat, Nat.mod_eq_of_lt (by split_ifs <;> omega), Nat.add_mul]
    cases neg <;> simp [Nat.pow_add, Nat.mul_comm]
  refine ⟨hsign, ?_, ?_⟩
  · rw [BitVec.extractLsb'_toNat, hnat, Nat.shiftRight_eq_div_pow, Nat.mul_comm _ (2 ^ fw),
      Nat.mul_add_div (Nat.two_pow_pos fw), Nat.div_eq_of_lt hf, Nat.add_zero]
    cases neg <;> simp [Nat.mod_eq_of_lt he]
  · rw [BitVec.extractLsb'_toNat, hnat, Nat.shiftRight_zero, Nat.mul_add_mod_self_right, Nat.mod_eq_of_lt hf]

end

/-- Decoding an encoding of fields in their ranges gives the value of these fields (IEEE 754; log 3). -/
theorem decodeFloat_encFields (fmt : FloatFmt) (neg : Bool) {e f : Nat} (he : e ≤ floatExpMax fmt)
    (hf : f < 2 ^ (floatPrecision fmt - 1)) : decodeFloat fmt (encFields fmt neg e f) = fvalOfFields fmt neg e f := by
  cases fmt with
  | binary32 =>
    obtain ⟨hsign, hexp, hfrac⟩ := fields_ofNat (fw := 23) (ew := 8) (by decide) neg (Nat.lt_succ_of_le he) hf rfl
    exact congr (congrArg₂ (fvalOfFields .binary32) hsign hexp) hfrac
  | binary64 =>
    obtain ⟨hsign, hexp, hfrac⟩ := fields_ofNat (fw := 52) (ew := 11) (by decide) neg (Nat.lt_succ_of_le he) hf rfl
    exact congr (congrArg₂ (fvalOfFields .binary64) hsign hexp) hfrac

/-! The value of each kind of encoding. -/

theorem fvalOfFields_inf (fmt : FloatFmt) (neg : Bool) : fvalOfFields fmt neg (floatExpMax fmt) 0 = .inf neg := by
  simp [fvalOfFields]

theorem fvalOfFields_nan (fmt : FloatFmt) (neg : Bool) {f : Nat} (hf : f ≠ 0) :
    fvalOfFields fmt neg (floatExpMax fmt) f = .nan := by
  simp [fvalOfFields, hf]

theorem fvalOfFields_subnormal (fmt : FloatFmt) (neg : Bool) (f : Nat) :
    fvalOfFields fmt neg 0 f = .fin { neg := neg, quanta := f } := by
  cases fmt <;> rfl

theorem fvalOfFields_normal {fmt : FloatFmt} (neg : Bool) {e : Nat} (hlo : 0 < e) (hhi : e < floatExpMax fmt) (f : Nat) :
    fvalOfFields fmt neg e f =
      .fin { neg := neg, quanta := (2 ^ (floatPrecision fmt - 1) + f) * 2 ^ (e - 1) } := by
  simp [fvalOfFields, Nat.ne_of_lt hhi, Nat.ne_of_gt hlo]

/-! Decoding inverts encoding. -/

theorem decodeFloat_encFloat_inf (fmt : FloatFmt) (neg : Bool) : decodeFloat fmt (encFloat fmt (.inf neg)) = .inf neg := by
  rw [encFloat, decodeFloat_encFields fmt neg (Nat.le_refl _) (Nat.two_pow_pos _), fvalOfFields_inf]

/-- Whichever NaN is written, its fraction field is in range and not zero (log 22). -/
theorem decodeFloat_encFloat_nan (fmt : FloatFmt) : decodeFloat fmt (encFloat fmt .nan) = .nan := by
  have hfrac : 1 + Config.nanCode.toNat % (2 ^ (floatPrecision fmt - 1) - 1) < 2 ^ (floatPrecision fmt - 1) := by
    have hwidth : 1 < 2 ^ (floatPrecision fmt - 1) := Nat.one_lt_two_pow (by cases fmt <;> decide)
    have hmod := Nat.mod_lt Config.nanCode.toNat (Nat.sub_pos_of_lt hwidth)
    omega
  rw [encFloat, decodeFloat_encFields fmt _ (Nat.le_refl _) hfrac, fvalOfFields_nan _ _ (by omega)]

/-- A number of `prec` significant bits is a multiple of the place its leading bits end at. -/
theorem two_pow_dvd_of_significand {prec q e N : Nat} (hq : q < 2 ^ prec) (hN : N = q * 2 ^ e) (hN0 : N ≠ 0) :
    2 ^ (N.log2 + 1 - prec) ∣ N := by
  have hlog : N.log2 < prec + e := by
    rw [Nat.log2_lt hN0, hN, Nat.pow_add]
    exact Nat.mul_lt_mul_of_pos_right hq (Nat.two_pow_pos e)
  exact Nat.dvd_trans (Nat.pow_dvd_pow 2 (by omega)) (Dvd.intro_left q hN.symm)

theorem decodeFloat_encFloat_fin {fmt : FloatFmt} (neg : Bool) {q e : Nat} (hq : q < 2 ^ floatPrecision fmt)
    (hover : q * 2 ^ e < overflowQuanta fmt) :
    decodeFloat fmt (encFloat fmt (.fin { neg := neg, quanta := q * 2 ^ e })) =
      .fin { neg := neg, quanta := q * 2 ^ e } := by
  generalize hN : q * 2 ^ e = N at hover ⊢
  rw [encFloat]
  split
  case isTrue hsub => rw [decodeFloat_encFields fmt neg (Nat.zero_le _) hsub, fvalOfFields_subnormal]
  case isFalse hnormal =>
    have hprec := two_le_floatPrecision fmt
    have hge : 2 ^ (floatPrecision fmt - 1) ≤ N := Nat.le_of_not_lt hnormal
    have hN0 : N ≠ 0 := Nat.ne_of_gt (Nat.lt_of_lt_of_le (Nat.two_pow_pos _) hge)
    have hlo : floatPrecision fmt - 1 ≤ N.log2 := (Nat.le_log2 hN0).2 hge
    have hhi : N.log2 < floatPrecision fmt + floatExpMax fmt - 2 := (Nat.log2_lt hN0).2 hover
    obtain ⟨sh, hsh⟩ : ∃ sh, N.log2 + 2 - floatPrecision fmt = sh + 1 := ⟨N.log2 + 1 - floatPrecision fmt, by omega⟩
    have hkept : N.log2 + 1 - floatPrecision fmt = sh := by omega
    obtain ⟨hlt, hlead⟩ := div_two_pow_bounds (N := N) (by omega : 0 < floatPrecision fmt) hkept.symm
    have hdvd : N / 2 ^ sh * 2 ^ sh = N := Nat.div_mul_cancel (hkept ▸ two_pow_dvd_of_significand hq hN.symm hN0)
    have hlead' : 2 ^ (floatPrecision fmt - 1) ≤ N / 2 ^ sh := by
      obtain rfl | h := hlead
      · simpa using hge
      · exact h
    have hdouble : 2 ^ floatPrecision fmt = 2 * 2 ^ (floatPrecision fmt - 1) := by
      rw [← Nat.pow_succ', Nat.succ_eq_add_one, Nat.sub_add_cancel (by omega)]
    simp only [hsh, Nat.add_sub_cancel]
    rw [decodeFloat_encFields fmt neg (by omega) (by omega), fvalOfFields_normal (e := sh + 1) neg sh.succ_pos (by omega),
      Nat.add_sub_cancel' hlead', Nat.add_sub_cancel, hdvd]

/-- Settles O51: each encoding is one of fields in their ranges, and decoding inverts encoding on each kind of value. -/
theorem floatEncodingsHaveIeeeValues : Obligations.FloatEncodingsHaveIeeeValues := by
  refine ⟨rfl, by rw [oneQuanta, floatScale], fun neg e f he hf => ?_, fun neg e f he hf => ?_, fun fmt =>
    ⟨decodeFloat_encFloat_nan fmt, decodeFloat_encFloat_inf fmt, fun neg q e => decodeFloat_encFloat_fin neg⟩⟩
  · exact decodeFloat_encFields .binary32 neg (Nat.le_of_lt_succ he) hf
  · exact decodeFloat_encFields .binary64 neg (Nat.le_of_lt_succ he) hf

/-! The FIN registers. -/

theorem finBits_binary64 (hi lo : Word) : finBits .binary64 hi lo = BitVec.ofNat 64 (hi.toNat * 2 ^ 32 + lo.toNat) := by
  simp only [finBits, ← BitVec.ofNat_toNat, ofNat_shiftLeft]
  exact ofNat_or_ofNat_of_dvd (Nat.dvd_mul_left _ _) lo.isLt

theorem finBits_binary32 (hi lo : Word) : finBits .binary32 hi lo = BitVec.ofNat 64 lo.toNat :=
  (BitVec.ofNat_toNat 64 lo).symm

/-- Zero FIN registers hold +0.0 in both formats (10_state.md R35). -/
theorem decodeFloat_finBits_zero (fmt : FloatFmt) :
    decodeFloat fmt (finBits fmt 0#32 0#32) = .fin { neg := false, quanta := 0 } := by
  cases fmt <;> decide

/-- Settles O50: each channel decodes the encoding in its own pair. -/
theorem finRegistersHoldFloats : Obligations.FinRegistersHoldFloats := by
  refine ⟨fun s => ?_, fun _ _ => ⟨rfl, rfl, rfl⟩, fun fmt => ?_⟩
  · simp only [State.finRed, State.finGreen, State.finBlue, finBits_binary64, finBits_binary32, and_self]
  · exact ⟨decodeFloat_finBits_zero fmt, decodeFloat_finBits_zero fmt, decodeFloat_finBits_zero fmt⟩

/-! The elements of SRC. -/

/-- Bytes stored least significant first: each counts the power of 256 of its place. -/
theorem foldl_reverse_memReadSrc (s : State) (a n : Nat) :
    (memReadSrc s a n).reverse.foldl (fun acc b => acc * 256 + b.toNat) 0 =
      ((List.range n).map (fun i => (s.srcByte (a + i)).toNat * 256 ^ i)).sum := by
  induction n generalizing a with
  | zero => rfl
  | succ n ih =>
    have hshift : ((List.range n).map (fun i => (s.srcByte (a + 1 + i)).toNat * 256 ^ i)).sum * 256 =
        ((List.range n).map (fun i => (s.srcByte (a + (i + 1))).toNat * 256 ^ (i + 1))).sum := by
      rw [← List.sum_map_mul_right]
      simp only [Nat.add_assoc, Nat.add_comm 1, Nat.pow_succ, Nat.mul_assoc]
    rw [memReadSrc, List.reverse_cons, List.foldl_append, ih, List.range_succ_eq_map, List.foldl_cons, List.foldl_nil, hshift]
    simp [Nat.add_comm, Function.comp_def]

/-- Bytes stored most significant first. -/
theorem foldl_memReadSrc (s : State) (a n acc : Nat) :
    (memReadSrc s a n).foldl (fun acc b => acc * 256 + b.toNat) acc =
      acc * 256 ^ n + ((List.range n).map (fun i => (s.srcByte (a + i)).toNat * 256 ^ (n - 1 - i))).sum := by
  induction n generalizing a acc with
  | zero => simp [memReadSrc]
  | succ n ih =>
    have hshift : ((List.range n).map (fun i => (s.srcByte (a + 1 + i)).toNat * 256 ^ (n - 1 - i))).sum =
        ((List.range n).map (fun i => (s.srcByte (a + (i + 1))).toNat * 256 ^ (n - (i + 1)))).sum := by
      simp only [Nat.add_assoc, Nat.add_comm 1, Nat.sub_sub]
    rw [memReadSrc, List.foldl_cons, ih, List.range_succ_eq_map, hshift]
    simp [Function.comp_def, Nat.add_mul, Nat.pow_succ, Nat.mul_assoc, Nat.mul_comm 256, Nat.add_assoc]

/-- Settles O57, in each byte order. -/
theorem floatElementByteOrder : Obligations.FloatElementByteOrder := by
  intro P s e
  rw [floatElem, concatBytes]
  cases P.srcFloatOrder with
  | le => rw [orderBytes, foldl_reverse_memReadSrc]
  | be => rw [orderBytes, foldl_memReadSrc, Nat.zero_mul, Nat.zero_add]

end Sys2Proof.Machine
end

section
/-! The pseudo-instructions of the host script: the writes they expand to, the number `fin` writes, and the polling loop
(30_encoding.md R107). -/

namespace Sys2Proof.Machine

/-! Expansions. -/

theorem expandLine_of_operandsOk {l : ScriptLine} (h : l.operandsOk = true) (fmt : FloatFmt) :
    expandLine fmt l = some (scriptOps fmt l) := if_pos h

/-- `sfill` writes its byte to the addresses from `a` up. -/
theorem sfillOps_eq_map (a : Nat) (b : Byte) (n : Nat) :
    sfillOps a b n = (List.range n).map (fun i => .access (.srcWr (BitVec.ofNat 32 (a + i)) b)) := by
  induction n generalizing a with
  | zero => rfl
  | succ n ih => simp [sfillOps, ih, List.range_succ_eq_map, Function.comp_def, Nat.add_assoc, Nat.add_comm 1]

theorem expandLine_sfill (fmt : FloatFmt) {a n b : Nat} (ha : a + n ≤ 4294967296) (hb : b < 256) :
    expandLine fmt (.sfill a n b) =
      some ((List.range n).map (fun i => .access (.srcWr (BitVec.ofNat 32 (a + i)) (BitVec.ofNat 8 b)))) := by
  rw [expandLine_of_operandsOk (by simp [ScriptLine.operandsOk, ha, hb]), scriptOps, sfillOps_eq_map]

/-! The number `fin` writes. -/

/-- A script's number is rounded, and past the largest number of the format it is an infinity (log 22). -/
theorem floatOf_num (fmt : FloatFmt) (neg : Bool) (n d : Nat) : floatOf fmt (.num neg n d) =
    if overflowQuanta fmt ≤ roundRat (floatPrecision fmt) (n * oneQuanta fmt) d then .inf neg
    else .fin { neg := neg, quanta := roundRat (floatPrecision fmt) (n * oneQuanta fmt) d } := rfl

theorem roundsTo_num (fmt : FloatFmt) (n : Nat) {d : Nat} (hd : d ≠ 0) :
    RoundsTo (floatPrecision fmt) (n * oneQuanta fmt) d (roundRat (floatPrecision fmt) (n * oneQuanta fmt) d) :=
  roundsTo_roundRat (two_le_floatPrecision fmt) (Nat.pos_of_ne_zero hd)

/-- A number that is a value of the format is written as it is. -/
theorem floatOf_num_of_representable {fmt : FloatFmt} (neg : Bool) {n d q e : Nat} (hd : d ≠ 0)
    (hq : q < 2 ^ floatPrecision fmt) (hover : q * 2 ^ e < overflowQuanta fmt)
    (hn : n * oneQuanta fmt = q * 2 ^ e * d) :
    floatOf fmt (.num neg n d) = .fin { neg := neg, quanta := q * 2 ^ e } := by
  rw [floatOf_num, (roundsTo_num fmt n hd).eq_of_representable (Nat.pos_of_ne_zero hd) hq hn,
    if_neg (Nat.not_le.2 hover)]

/-- Settles O6: the expansions by evaluation and by the form of `sfill`, the number by rounding, the loop by its step. -/
theorem pseudoInstructionsRunAsTheyExpand : Obligations.PseudoInstructionsRunAsTheyExpand := by
  refine ⟨fun fmt => ⟨rfl, rfl, rfl, fun a n b => expandLine_sfill fmt⟩, fun v x hok => ?_, fun fmt => ⟨rfl, fun _ => rfl,
    fun neg n d q e => floatOf_num_of_representable neg, fun neg n d hd => ?_⟩, fun s rest => step_wait⟩
  · rw [expandLine_of_operandsOk hok, expandLine_of_operandsOk hok]
    cases x <;> exact ⟨rfl, rfl⟩
  · exact ⟨_, roundsTo_num fmt n hd, floatOf_num fmt neg n d⟩

end Sys2Proof.Machine
end
